-- ==== Sys2Proof/Word.lean ====
section
/-! DEFINITION. The word types of LRPE: every register, operand and buffer byte is 8 bits wide (rule R9),
and the host's register space has 9-bit addresses (rules R7, R50). -/

namespace Sys2Proof

/-- One byte: the width of every register, operand, buffer byte and bus access (rules R7, R9, R51). -/
abbrev Byte := BitVec 8

/-- A host address, 0x000 to 0x1FF (rule R50: "Addresses are 9 bits wide"). -/
abbrev Addr := BitVec 9

end Sys2Proof
end

