-- ==== Sys2Proof/Syntax.lean ====
section
/-! DEFINITION. The operations of LRPE: one constructor per row of spec/opcode_table.json (rule R75). A constructor
holds the operands its operation uses, each at the width of its field; operands the operation ignores (rule R71)
are not held. -/

namespace Sys2Proof

/-- One LRPE operation with its operand fields (rules R72 to R75). -/
inductive Instr where
  /-- NOP, opcode 0x00 (R92). -/
  | nop
  /-- CRC_INIT, opcode 0x01 (R104). -/
  | crcInit
  /-- CRC_BYTE, opcode 0x02: a0 = data byte (R105). -/
  | crcByte (data : Byte)
  /-- CRC_ROUND, opcode 0x03 (R106). -/
  | crcRound
  /-- CRC_BUF, opcode 0x04: a0 = SEL, a1 = START, a2 = LEN (R73, R107). -/
  | crcBuf (sel start len : Byte)
  /-- CLR_ERR, opcode 0x0F (R93). -/
  | clrErr
  /-- FRAME_ENCODE, opcode 0x10: a0 = CMD; a1 = FEAT_EN, reserved [6:3], FEAT; a2 = reserved [7:1], PL_EN
  (R72, R122). The reserved fields are kept: the operation checks them. -/
  | frameEncode (cmd : Byte) (featEn : Bool) (rsvA1 : BitVec 4) (feat : BitVec 3) (rsvA2 : BitVec 7) (plEn : Bool)
  /-- FRAME_VALIDATE, opcode 0x11 (R125). -/
  | frameValidate
  /-- PL_CLEAR, opcode 0x20 (R145). -/
  | plClear
  /-- PL_LIGHT, opcode 0x21 (R146). -/
  | plLight
  /-- PL_LIGHT_SOLID, opcode 0x22: a0 = red, a1 = green, a2 = blue (R147). -/
  | plLightSolid (red green blue : Byte)
  /-- PL_FAN, opcode 0x23: a0 = duty percent, a1 = pump mode (R148). -/
  | plFan (pct mode : Byte)
  /-- PL_PUMP, opcode 0x24: a0 = pump mode (R149). -/
  | plPump (mode : Byte)
  /-- TLM_DECODE, opcode 0x30 (R173). -/
  | tlmDecode
  /-- TX_TLM_REQ, opcode 0x40 (R170). -/
  | txTlmReq
  /-- TX_LIGHT, opcode 0x41 (R150). -/
  | txLight
  /-- TX_LIGHT_SOLID, opcode 0x42: a0 = red, a1 = green, a2 = blue (R151). -/
  | txLightSolid (red green blue : Byte)
  /-- TX_FAN, opcode 0x43: a0 = duty percent, a1 = pump mode (R152). -/
  | txFan (pct mode : Byte)
  /-- TX_FAN_KEEP, opcode 0x44: a0 = duty percent (R153). -/
  | txFanKeep (pct : Byte)
  /-- TX_PUMP, opcode 0x45: a0 = pump mode (R154). -/
  | txPump (mode : Byte)
  deriving DecidableEq, Repr

end Sys2Proof
end

