-- ==== Sys2Proof/Decode.lean ====
section
/-! DEFINITION. Decoding and encoding of the 32-bit command word (rules R70 to R77): four bytes, ARG0 at the lowest
address and OPCODE at the highest. Decoding looks at the OPCODE byte alone (rule R75: "Decoding needs only
CW[31:24]") and is total: any bytes give an operation or a rejection by name. -/

namespace Sys2Proof

/-- Why bytes are no operation. -/
inductive DecodeError where
  /-- Fewer than the four bytes of a command word. LRPE never meets it: it always holds all four registers.
  Log entry 13. -/
  | truncated
  /-- One of the 236 opcode values that rule R75 does not list (R76). -/
  | badOpcode (op : Byte)
  deriving DecidableEq, Repr

/-- FRAME_ENCODE's operands taken apart into the fields of rule R72. -/
def decodeFrameEncode (a0 a1 a2 : Byte) : Instr :=
  .frameEncode a0 (a1.getLsbD 7) (a1.extractLsb' 3 4) (a1.extractLsb' 0 3) (a2.extractLsb' 1 7) (a2.getLsbD 0)

/-- The opcode map of rule R75, with operands a0, a1, a2. -/
def decodeOp (a0 a1 a2 op : Byte) : Except DecodeError Instr :=
  match op.toNat with
  | 0x00 => .ok .nop
  | 0x01 => .ok .crcInit
  | 0x02 => .ok (.crcByte a0)
  | 0x03 => .ok .crcRound
  | 0x04 => .ok (.crcBuf a0 a1 a2)
  | 0x0F => .ok .clrErr
  | 0x10 => .ok (decodeFrameEncode a0 a1 a2)
  | 0x11 => .ok .frameValidate
  | 0x20 => .ok .plClear
  | 0x21 => .ok .plLight
  | 0x22 => .ok (.plLightSolid a0 a1 a2)
  | 0x23 => .ok (.plFan a0 a1)
  | 0x24 => .ok (.plPump a0)
  | 0x30 => .ok .tlmDecode
  | 0x40 => .ok .txTlmReq
  | 0x41 => .ok .txLight
  | 0x42 => .ok (.txLightSolid a0 a1 a2)
  | 0x43 => .ok (.txFan a0 a1)
  | 0x44 => .ok (.txFanKeep a0)
  | 0x45 => .ok (.txPump a0)
  | _ => .error (.badOpcode op)

/-- Decode the command word at the head of a list of bytes, lowest address first (R70), and give back the rest. -/
def decode : List Byte → Except DecodeError (Instr × List Byte)
  | a0 :: a1 :: a2 :: op :: rest =>
    match decodeOp a0 a1 a2 op with
    | .ok i => .ok (i, rest)
    | .error e => .error e
  | _ => .error .truncated

/-- The opcode of an operation (R75). -/
def opcodeOf : Instr → Byte
  | .nop => 0x00
  | .crcInit => 0x01
  | .crcByte _ => 0x02
  | .crcRound => 0x03
  | .crcBuf _ _ _ => 0x04
  | .clrErr => 0x0F
  | .frameEncode _ _ _ _ _ _ => 0x10
  | .frameValidate => 0x11
  | .plClear => 0x20
  | .plLight => 0x21
  | .plLightSolid _ _ _ => 0x22
  | .plFan _ _ => 0x23
  | .plPump _ => 0x24
  | .tlmDecode => 0x30
  | .txTlmReq => 0x40
  | .txLight => 0x41
  | .txLightSolid _ _ _ => 0x42
  | .txFan _ _ => 0x43
  | .txFanKeep _ => 0x44
  | .txPump _ => 0x45

/-- The operand bytes a0, a1, a2 of an operation; an operand it ignores is written as 0x00 (R71, R80: "Omitted
trailing operands are 0x00"). -/
def operandsOf : Instr → Byte × Byte × Byte
  | .nop => (0, 0, 0)
  | .crcInit => (0, 0, 0)
  | .crcByte data => (data, 0, 0)
  | .crcRound => (0, 0, 0)
  | .crcBuf sel start len => (sel, start, len)
  | .clrErr => (0, 0, 0)
  | .frameEncode cmd featEn rsvA1 feat rsvA2 plEn =>
    (cmd, BitVec.ofBool featEn ++ rsvA1 ++ feat, rsvA2 ++ BitVec.ofBool plEn)
  | .frameValidate => (0, 0, 0)
  | .plClear => (0, 0, 0)
  | .plLight => (0, 0, 0)
  | .plLightSolid red green blue => (red, green, blue)
  | .plFan pct mode => (pct, mode, 0)
  | .plPump mode => (mode, 0, 0)
  | .tlmDecode => (0, 0, 0)
  | .txTlmReq => (0, 0, 0)
  | .txLight => (0, 0, 0)
  | .txLightSolid red green blue => (red, green, blue)
  | .txFan pct mode => (pct, mode, 0)
  | .txFanKeep pct => (pct, 0, 0)
  | .txPump mode => (mode, 0, 0)

/-- The four bytes of an operation's command word, lowest address first (R70). -/
def encode (i : Instr) : List Byte :=
  [(operandsOf i).1, (operandsOf i).2.1, (operandsOf i).2.2, opcodeOf i]

/-- The command word CW of four bytes: CW = OPCODE*2^24 + ARG2*2^16 + ARG1*2^8 + ARG0 (R55, R70). -/
def commandWord (a0 a1 a2 op : Byte) : BitVec 32 := op ++ a2 ++ a1 ++ a0

/-- An operation's command word as one 32-bit value (R70). -/
def encodeWord (i : Instr) : BitVec 32 :=
  commandWord (operandsOf i).1 (operandsOf i).2.1 (operandsOf i).2.2 (opcodeOf i)

/-- Byte `k` of a word held as a number: bits [8k+7:8k]. -/
def byteOfNat (w k : Nat) : Byte := BitVec.ofNat 8 (w >>> (8 * k))

/-- The four bytes of the command word whose low `nbits` bits are `w`'s and whose other bits are 0. -/
def wordBytes (nbits w : Nat) : List Byte :=
  let v := w % 2 ^ nbits
  [byteOfNat v 0, byteOfNat v 1, byteOfNat v 2, byteOfNat v 3]

/-- The operation the decoder reads from a command word given as bits numbered as the opcode table numbers them. -/
def decodeTableWord (nbits w : Nat) : Option Instr :=
  match decode (wordBytes nbits w) with
  | .ok (i, _) => some i
  | .error _ => none

end Sys2Proof
end

