-- ==== Sys2Proof/Machine/State.lean ====
section
/-! DEFINITION. The state of the model as plain data: every register and buffer byte of rule R20, the count of nonce
draws (the model's own field, log entry 4), and the host agent's side (rules R5, R221). Also the names the machine
uses: status flags, error codes, buffers, places of the register map, host events, faults and refusals. -/

namespace Sys2Proof.Machine

/-- The contents of the four byte buffers, keyed by host address (R21). -/
abbrev Memory := List Host.Cell

/-- The four byte buffers (R20). -/
inductive Buffer where
  | tx
  | rx
  | payload
  | led
  deriving DecidableEq, Repr

/-- The fields of STATUS (R24). -/
inductive StatusFlag where
  | chkValid
  | chkMismatch
  | tlmValid
  | lightTx
  | stickyErr
  deriving DecidableEq, Repr

/-- The error codes LRPE produces (R190); codes 5 to 7 are never produced. -/
inductive ErrCode where
  | none
  | badOpcode
  | badArg
  | badRange
  | checksumMismatch
  deriving DecidableEq, Repr

/-- PumpMode (R74, R142). -/
inductive PumpMode where
  | quiet
  | balanced
  | extreme
  deriving DecidableEq, Repr

/-- The names of the fourteen telemetry field registers (R33). -/
inductive TlmField where
  | fwMajor
  | fwMinor
  | fwPatch
  | tempFrac
  | tempInt
  | pumpDuty
  | pumpMode
  | pumpModeRaw
  | fan1RpmLo
  | fan1RpmHi
  | fan1Duty
  | fan2RpmLo
  | fan2RpmHi
  | fan2Duty
  deriving DecidableEq, Repr

/-- What stands at a host address (R21): a register, byte `k` of a buffer, or nothing. -/
inductive Loc where
  | arg0
  | arg1
  | arg2
  | opcode
  | status
  | errcode
  | crcRem
  | tlm (f : TlmField)
  | buf (b : Buffer) (k : Nat)
  | reserved
  deriving DecidableEq, Repr

/-- The telemetry field registers (R33), written by TLM_DECODE alone. -/
structure Telemetry where
  fwMajor : Byte
  fwMinor : Byte
  fwPatch : Byte
  tempFrac : Byte
  tempInt : Byte
  pumpDuty : Byte
  pumpMode : Byte
  pumpModeRaw : Byte
  fan1RpmLo : Byte
  fan1RpmHi : Byte
  fan1Duty : Byte
  fan2RpmLo : Byte
  fan2RpmHi : Byte
  fan2Duty : Byte
  deriving DecidableEq, Repr

/-- Every telemetry field register at 0x00: its reset value, and what a failed TLM_DECODE leaves (R33). -/
def Telemetry.zero : Telemetry :=
  { fwMajor := 0, fwMinor := 0, fwPatch := 0, tempFrac := 0, tempInt := 0, pumpDuty := 0, pumpMode := 0,
    pumpModeRaw := 0, fan1RpmLo := 0, fan1RpmHi := 0, fan1Duty := 0, fan2RpmLo := 0, fan2RpmHi := 0, fan2Duty := 0 }

/-- One thing the outside world does to LRPE (R51, R80, R210, R222). -/
inductive HostEvent where
  /-- `sb addr, v`: one MemWrite(addr, 1, v). -/
  | sb (addr : Addr) (v : Byte)
  /-- `lb addr`: one MemRead(addr, 1). -/
  | lb (addr : Addr)
  /-- `xmit`: the host reads TX_BUF[0..64) and hands those bytes to the transport's write. -/
  | xmit
  /-- `wait_ms t`: the host waits `t` milliseconds. -/
  | waitMs (t : Nat)
  /-- The platform asserts the reset input. -/
  | reset
  deriving DecidableEq, Repr

/-- The host agent's side of a run (R5, R221): its remaining accesses (the position in them is the program counter
of R39), the two sequences the run observes, and what its duties look at. All of it is the
model's own form of the host; log entries 1, 7, 9, 19. -/
structure HostSide where
  /-- The host's accesses still to come, next first. -/
  pending : List HostEvent
  /-- The values its `lb` accesses returned, oldest first. -/
  reads : List Byte
  /-- The frames handed to the transport, oldest first, each a snapshot of TX_BUF. -/
  frames : List (List Byte)
  /-- Milliseconds the host must still wait before it may hand over another frame (R213). -/
  settle : Nat
  /-- The RX_BUF indexes of a telemetry response still to be written; none where no response is awaited (R214, R218). -/
  awaited : Option (List Nat)
  /-- The device's pump mode, as learnt from a response requested after the last cooling write (R214). -/
  learntMode : Option Byte
  deriving DecidableEq, Repr

/-- The state: R20's registers and buffers, the count of nonces drawn so far, and the host's side. -/
structure State where
  arg0 : Byte
  arg1 : Byte
  arg2 : Byte
  opcode : Byte
  status : Byte
  errcode : Byte
  crcRem : Byte
  tlm : Telemetry
  mem : Memory
  draws : Nat
  host : HostSide
  deriving DecidableEq, Repr

/-- Why the machine stops. -/
inductive Fault where
  /-- Raised by the host event `xmit` alone, never by an operation: the host hands a frame to the transport less than
  5 ms after a lighting frame. Rules R213, R222 (frame read-out: "unsaid: no move in the model"). Safe: nothing is
  claimed of such a run. Log entry 9. -/
  | settleTimeBroken
  /-- Raised by the host event `xmit` alone, never by an operation: the host hands over a fan write whose pump mode is
  not the one learnt from a telemetry response requested after the last cooling write. Rules R214, R222 (fan write: "the
  device's pump mode changes: unsaid") and 93_implementation_defined.md item 9 ("stuck"). Safe: nothing is claimed of
  such a run. Log entry 19. -/
  | stalePumpMode
  deriving DecidableEq, Repr

/-- Why an operation has no meaning. -/
inductive Refusal where
  /-- Raised by an arm of `exec` for an operation with no meaning in the model; no arm does. Safe. -/
  | notModelled (mnemonic : String)
  deriving DecidableEq, Repr

/-- The state right after reset (R210): every register and every buffer byte 0x00. The draw count and the host's side
are the model's own fields; their start values are a DESIGN CHOICE (log entries 4, 7). -/
def State.reset : State :=
  { arg0 := 0x00, arg1 := 0x00, arg2 := 0x00, opcode := 0x00, status := 0x00, errcode := 0x00, crcRem := 0x00,
    tlm := Telemetry.zero, mem := [], draws := 0,
    host := { pending := [], reads := [], frames := [], settle := 0, awaited := none, learntMode := none } }

end Sys2Proof.Machine
end

