-- ==== Sys2Proof/Machine/Memory.lean ====
section
/-! DEFINITION. The byte buffers as memory (rules R20, R21, R34 to R37): one list of address and byte pairs, kept in
one canonical form, with reads and writes of a byte and of a run of bytes. -/

namespace Sys2Proof.Machine

/-- What an address no entry lists reads as: every buffer byte resets to 0x00 (R34 to R37, R210). -/
def Memory.unlisted : Byte := 0x00

/-- The canonical form: addresses strictly rising, and no entry equal to what an unlisted address reads as. -/
abbrev Memory.wf (m : Memory) : Prop :=
  m.Pairwise (fun c d => c.1 < d.1) ∧ ∀ c ∈ m, c.2 ≠ Memory.unlisted

/-- The byte at an address. -/
def Memory.read : Memory → Nat → Byte
  | [], _ => Memory.unlisted
  | (b, v) :: m, a => if b = a then v else Memory.read m a

/-- Drop every entry for an address. -/
def Memory.erase (m : Memory) (a : Nat) : Memory := m.filter (fun c => c.1 != a)

/-- Put an entry before the first entry of a higher address. -/
def Memory.insert : Memory → Nat → Byte → Memory
  | [], a, v => [(a, v)]
  | (b, w) :: m, a, v => if a < b then (a, v) :: (b, w) :: m else (b, w) :: Memory.insert m a v

/-- Write one byte, keeping the canonical form. -/
def Memory.write (m : Memory) (a : Nat) (v : Byte) : Memory :=
  if v = Memory.unlisted then m.erase a else (m.erase a).insert a v

/-- Write consecutive bytes from an address upward. -/
def Memory.writeBytes : Memory → Nat → List Byte → Memory
  | m, _, [] => m
  | m, a, v :: vs => Memory.writeBytes (m.write a v) (a + 1) vs

/-- Read `n` consecutive bytes from an address upward. -/
def Memory.readBytes (m : Memory) : Nat → Nat → List Byte
  | _, 0 => []
  | a, n + 1 => m.read a :: Memory.readBytes m (a + 1) n

/-- The host address of a buffer's byte 0 (R21). -/
def Buffer.base : Buffer → Nat
  | .tx => 0x040
  | .rx => 0x080
  | .payload => 0x0C0
  | .led => 0x100

/-- A buffer's size in bytes (R20). -/
def Buffer.size : Buffer → Nat
  | .tx => 64
  | .rx => 64
  | .payload => 60
  | .led => 48

/-- The address is a buffer byte's (R21). -/
def isBufferAddr (a : Nat) : Bool :=
  (0x040 ≤ a && a < 0x0FC) || (0x100 ≤ a && a < 0x130)

/-- Byte `k` of a buffer (R21: "Buffer byte `k` lives at the buffer's base address plus `k`"). -/
def State.byte (s : State) (b : Buffer) (k : Nat) : Byte := s.mem.read (b.base + k)

/-- All bytes of a buffer, byte 0 first. -/
def State.bytes (s : State) (b : Buffer) : List Byte := s.mem.readBytes b.base b.size

/-- Rewrite a buffer from byte 0 upward. -/
def State.store (s : State) (b : Buffer) (bs : List Byte) : State :=
  { s with mem := s.mem.writeBytes b.base bs }

end Sys2Proof.Machine
end

