-- ==== Sys2Proof/Machine/Bus.lean ====
section
/-! DEFINITION. The register map (rule R21) and the host's single-byte accesses (R51 to R53). Every address is mapped
and no access faults (R50). Issuing an operation, the one access with a side effect, is in Issue.lean. -/

namespace Sys2Proof.Machine

/-- What stands at an address from 0x017 upward (R21, R38). -/
def locateHigh (n : Nat) : Loc :=
  if 0x040 ≤ n ∧ n ≤ 0x07F then .buf .tx (n - 0x040)
  else if 0x080 ≤ n ∧ n ≤ 0x0BF then .buf .rx (n - 0x080)
  else if 0x0C0 ≤ n ∧ n ≤ 0x0FB then .buf .payload (n - 0x0C0)
  else if 0x100 ≤ n ∧ n ≤ 0x12F then .buf .led (n - 0x100)
  else .reserved

/-- The register map (R21). -/
def locate (a : Addr) : Loc :=
  match a.toNat with
  | 0x000 => .arg0
  | 0x001 => .arg1
  | 0x002 => .arg2
  | 0x003 => .opcode
  | 0x004 => .status
  | 0x005 => .errcode
  | 0x006 => .crcRem
  | 0x007 => .reserved
  | 0x008 => .tlm .fwMajor
  | 0x009 => .tlm .fwMinor
  | 0x00A => .tlm .fwPatch
  | 0x00B => .tlm .tempFrac
  | 0x00C => .tlm .tempInt
  | 0x00D => .tlm .pumpDuty
  | 0x00E => .tlm .pumpMode
  | 0x00F => .tlm .pumpModeRaw
  | 0x010 => .tlm .fan1RpmLo
  | 0x011 => .tlm .fan1RpmHi
  | 0x012 => .tlm .fan1Duty
  | 0x013 => .reserved
  | 0x014 => .tlm .fan2RpmLo
  | 0x015 => .tlm .fan2RpmHi
  | 0x016 => .tlm .fan2Duty
  | n => locateHigh n

/-- A telemetry field register by name (R33). -/
def Telemetry.get (t : Telemetry) : TlmField → Byte
  | .fwMajor => t.fwMajor
  | .fwMinor => t.fwMinor
  | .fwPatch => t.fwPatch
  | .tempFrac => t.tempFrac
  | .tempInt => t.tempInt
  | .pumpDuty => t.pumpDuty
  | .pumpMode => t.pumpMode
  | .pumpModeRaw => t.pumpModeRaw
  | .fan1RpmLo => t.fan1RpmLo
  | .fan1RpmHi => t.fan1RpmHi
  | .fan1Duty => t.fan1Duty
  | .fan2RpmLo => t.fan2RpmLo
  | .fan2RpmHi => t.fan2RpmHi
  | .fan2Duty => t.fan2Duty

/-- The value that stands at a place of the map; a reserved address reads 0x00 (R38, R52). -/
def State.readLoc (s : State) : Loc → Byte
  | .arg0 => s.arg0
  | .arg1 => s.arg1
  | .arg2 => s.arg2
  | .opcode => s.opcode
  | .status => s.status
  | .errcode => s.errcode
  | .crcRem => s.crcRem
  | .tlm f => s.tlm.get f
  | .buf b k => s.byte b k
  | .reserved => 0x00

/-- MemRead(addr, 1) (R51, R52): no state changes. -/
def busRead (a : Addr) (s : State) : Byte := s.readLoc (locate a)

/-- The host may write this buffer (R21): all but TX_BUF. -/
def Buffer.hostWritable : Buffer → Bool
  | .tx => false
  | .rx => true
  | .payload => true
  | .led => true

/-- Byte `k` of a buffer <- v. -/
def State.putByte (s : State) (b : Buffer) (k : Nat) (v : Byte) : State :=
  { s with mem := s.mem.write (b.base + k) v }

/-- A host write to a place of the map other than OPCODE (R53): RW places store the byte; read-only and reserved
places ignore it. What a write to OPCODE does beyond storing the byte is in Issue.lean. -/
def State.writeLoc (s : State) (l : Loc) (v : Byte) : State :=
  match l with
  | .arg0 => { s with arg0 := v }
  | .arg1 => { s with arg1 := v }
  | .arg2 => { s with arg2 := v }
  | .opcode => { s with opcode := v }
  | .status => s
  | .errcode => s
  | .crcRem => s
  | .tlm _ => s
  | .buf b k => if b.hostWritable then s.putByte b k v else s
  | .reserved => s

end Sys2Proof.Machine
end

