-- ==== Sys2Proof/Machine/Flags.lean ====
section
/-! DEFINITION. STATUS flags (rules R24 to R30), error codes (R190) and completion (R91). -/

namespace Sys2Proof.Machine

/-- The STATUS bit of a flag (R24). -/
def StatusFlag.bit : StatusFlag → Nat
  | .chkValid => 0
  | .chkMismatch => 1
  | .tlmValid => 2
  | .lightTx => 3
  | .stickyErr => 4

/-- A byte with bit `k` set to `b` and every other bit kept. -/
def setBit (v : Byte) (k : Nat) (b : Bool) : Byte :=
  if b then v ||| (1#8 <<< k) else v &&& ~~~(1#8 <<< k)

/-- A flag of STATUS. -/
def State.flag (s : State) (f : StatusFlag) : Bool := s.status.getLsbD f.bit

/-- STATUS.f <- b; every other bit of STATUS is kept. -/
def State.putFlag (s : State) (f : StatusFlag) (b : Bool) : State :=
  { s with status := setBit s.status f.bit b }

/-- The number of an error code (R190). -/
def ErrCode.code : ErrCode → Byte
  | .none => 0
  | .badOpcode => 1
  | .badArg => 2
  | .badRange => 3
  | .checksumMismatch => 4

/-- `finish(code)` (R91): ERRCODE <- code, and STICKY_ERR <- 1 where the code is not 0. -/
def finish (c : ErrCode) (s : State) : State :=
  let t := { s with errcode := c.code }
  if c = .none then t else t.putFlag .stickyErr true

/-- `raise Error(code)` (R10, R91): the one way an operation reports an error. LRPE has no trap (R196): nothing is
saved and no control moves; ERRCODE and STICKY_ERR record it, and the operation ends. -/
def raise (c : ErrCode) (s : State) : Host.Outcome State Fault Refusal := .next (finish c s)

/-- The normal end of an operation, `finish(0)` (R91). -/
def done (s : State) : Host.Outcome State Fault Refusal := .next (finish .none s)

end Sys2Proof.Machine
end

