-- ==== Sys2Proof/Config.lean ====
section
/-! DEFINITION. What is fixed for one LRPE: the constants of rule R6, the OPEN parameters of rule R7 that the
model needs (the fan mode offsets), and the free value of the nonce source (rule R120). -/

namespace Sys2Proof.Config

/-- FRAME_LEN (R6). -/
def frameLen : Nat := 64
/-- PAYLOAD_LEN (R6). -/
def payloadLen : Nat := 60
/-- LED_COUNT (R6). -/
def ledCount : Nat := 16
/-- MARKER, frame byte 0 (R6). -/
def marker : Byte := 0x3F
/-- CRC_POLY (R6). -/
def crcPoly : Byte := 0x07
/-- CRC_INIT, the initial remainder (R6). -/
def crcInit : Byte := 0x00
/-- CMD_TLM, the device command that requests telemetry (R6). -/
def cmdTlm : Byte := 0xFF
/-- CMD_CFG, the device command that writes subsystem configuration (R6). -/
def cmdCfg : Byte := 0x14
/-- FEAT_COOLING, the feature selector of fan and pump writes (R6). -/
def featCooling : BitVec 3 := 0b000
/-- LIGHT_CODE 0b100, merged into byte 1 of a lighting frame (R6, R79). -/
def lightCode : Byte := 0x04
/-- COOLING_HDR, payload offsets 0 to 7 of a cooling payload (R6). -/
def coolingHdr : List Byte := [0x00, 0xFF, 0x05, 0xFF, 0xFF, 0xFF, 0xFF, 0xFF]
/-- APPLY_VAL, the "apply" marker at payload offset 26 (R6). -/
def applyVal : Byte := 0x07
/-- FAN_DUTY_DELTA: a fan's duty byte stands this far above its mode byte (R6). -/
def fanDutyDelta : Nat := 5
/-- FANMODE_FIXED, the one FanMode the source gives (R6, R142). -/
def fanModeFixed : Byte := 0x02
/-- LIGHT_SETTLE in milliseconds: the host's wait after sending a lighting frame (R6, R213). -/
def lightSettleMs : Nat := 5

/-- What one draw of the nonce source leaves free: the upper five bits of the `k`th nonce. It has no body, so
nothing can be proved of its value (rule R120: "A model places no other constraint on it"). Log entry 3. -/
opaque nonceBits : Nat → BitVec 5

/-- The `k`th nonce: any element of NONCE_SET_MODEL = {0x00, 0x08, ..., 0xF8}; bits [2:0] are 0 (R7, R120). -/
def nonce (k : Nat) : Byte := nonceBits k ++ 0#3

/-- NONCE_SET_MODEL, the set a model with no chip evidence uses (R7, R120). -/
def nonceSetModel : List Byte := (List.range 32).map fun k => BitVec.ofNat 8 (8 * k)

/-- NONCE_SET_DOC, the set the source documents (R7, R120). -/
def nonceSetDoc : List Byte := (List.range 31).map fun k => BitVec.ofNat 8 (8 * (k + 1))

/-- Constraints (a) and (b) of rule R143 on a pair of fan mode offsets. -/
def fanOfsOk (o₁ o₂ : Nat) : Bool :=
  (8 ≤ o₁) && (o₁ + 5 ≤ 59) && (8 ≤ o₂) && (o₂ + 5 ≤ 59) &&
  decide ([o₁, o₁ + 5, o₂, o₂ + 5, 20, 26].Nodup)

/-- The platform's choice of fan mode offsets before rule R143's constraints are applied. It has no body. -/
opaque fanModeOfsChoice : Nat × Nat

/-- The pair (FAN_MODE_OFS1, FAN_MODE_OFS2): any pair that meets rule R143's constraints. Where the free choice
does not meet them the pair is (8, 14), one that does; every legal pair stays possible. Log entry 5. -/
def fanModeOfs : Nat × Nat :=
  if fanOfsOk fanModeOfsChoice.1 fanModeOfsChoice.2 then fanModeOfsChoice else (8, 14)

/-- FAN_MODE_OFS1, the payload offset of the fan-1 mode byte (OPEN, R7, R143). -/
def fanModeOfs1 : Nat := fanModeOfs.1

/-- FAN_MODE_OFS2, the payload offset of the fan-2 mode byte (OPEN, R7, R143). -/
def fanModeOfs2 : Nat := fanModeOfs.2

end Sys2Proof.Config
end

