-- ==== Sys2Proof/Machine/Checksum.lean ====
section
/-! DEFINITION. The functions of the CRC-8 engine (rules R100 to R102), written bit by bit as the source gives them. -/

namespace Sys2Proof.Machine

/-- One reduction round (R100): shift left, and XOR with 0x07 where bit 7 was 1 before the shift. -/
def crcRound (r : Byte) : Byte :=
  if r.getLsbD 7 then (r <<< 1) ^^^ Config.crcPoly else r <<< 1

/-- `k` rounds. -/
def crcRounds : Nat → Byte → Byte
  | 0, r => r
  | k + 1, r => crcRounds k (crcRound r)

/-- Fold one byte (R101): XOR the whole byte in, then 8 rounds. -/
def crcStep (r b : Byte) : Byte := crcRounds 8 (r ^^^ b)

/-- The checksum of a byte sequence of any length (R102). -/
def crc8 (bs : List Byte) : Byte := bs.foldl crcStep Config.crcInit

/-- Bytes 1 to 62 of a frame, the checksummed range F[1..63) (R8, 90_conflicts.md C1). -/
def checkedRange (f : List Byte) : List Byte := (f.drop 1).take 62

/-- A frame's trailing checksum byte, F[63]. -/
def trailer (f : List Byte) : Byte := f.getD 63 0

/-- Frame validity (R123): crc8(F[1..63)) = F[63], and nothing else is checked. -/
def frameValid (f : List Byte) : Bool := crc8 (checkedRange f) == trailer f

end Sys2Proof.Machine
end

