-- ==== Sys2Proof/Machine/Layout.lean ====
section
/-! DEFINITION. The byte layouts: frames (rules R78, R121), payloads (R140 to R144), and the mode and duty encodings
(R141, R142, R172). -/

namespace Sys2Proof.Machine

/-- The numeric code of a pump mode (R142). -/
def PumpMode.code : PumpMode → Byte
  | .quiet => 0x00
  | .balanced => 0x01
  | .extreme => 0x02

/-- `pump_mode_decode` (R172): an unrecognised byte is Balanced, not an error. -/
def pumpModeDecode (b : Byte) : Byte :=
  if b = 0x00 then PumpMode.quiet.code
  else if b = 0x01 then PumpMode.balanced.code
  else if b = 0x02 then PumpMode.extreme.code
  else PumpMode.balanced.code

/-- `duty_byte` (R141): a duty percentage as a byte, ties rounded up, clamped to 255. -/
def dutyByte (p : Byte) : Byte := BitVec.ofNat 8 (min 255 ((p.toNat * 255 + 50) / 100))

/-- `n` bytes of 0x00. -/
def zeros (n : Nat) : List Byte := List.replicate n 0x00

/-- `cooling_base(mode)` (R140): header at 0 to 7, pump mode at 20, "apply" marker at 26, 0x00 elsewhere. -/
def coolingBase (mode : Byte) : List Byte :=
  Config.coolingHdr ++ zeros 12 ++ [mode] ++ zeros 5 ++ [Config.applyVal] ++ zeros 33

/-- One fan channel's two bytes put into a payload: FixedDuty at its mode offset, the duty byte 5 above (R142, R148). -/
def putFan (ofs : Nat) (d : Byte) (p : List Byte) : List Byte :=
  (p.set ofs Config.fanModeFixed).set (ofs + Config.fanDutyDelta) d

/-- The fan payload (R148) with the two mode offsets given. -/
def fanLayoutAt (o₁ o₂ : Nat) (pct mode : Byte) : List Byte :=
  putFan o₂ (dutyByte pct) (putFan o₁ (dutyByte pct) (coolingBase mode))

/-- The fan payload (R148) with this LRPE's offsets FAN_MODE_OFS1 and FAN_MODE_OFS2 (R143). -/
def fanLayout (pct mode : Byte) : List Byte :=
  fanLayoutAt Config.fanModeOfs1 Config.fanModeOfs2 pct mode

/-- A color triple (R, G, B). -/
abbrev Color := Byte × Byte × Byte

/-- `light_payload` (R144): 0x00, then each LED's bytes in the order G, R, B, then 0x00 up to 60 bytes. -/
def lightPayload (t : List Color) : List Byte :=
  [0x00] ++ t.flatMap (fun c => [c.2.1, c.1, c.2.2]) ++ zeros 11

/-- The sixteen slots filled with one triple (R147). -/
def solidColors (red green blue : Byte) : List Color := List.replicate Config.ledCount (red, green, blue)

/-- Byte 1 to byte 62 of a frame (R78): Form B where a feature is present, else Form A. -/
def frameBody (n cmd : Byte) (fe : Bool) (feat : BitVec 3) (pl : List Byte) : List Byte :=
  if fe then [n ||| feat.setWidth 8, cmd] ++ pl else [n ||| cmd] ++ pl ++ [0x00]

/-- The 64 bytes of a frame (R78, R121): marker, body, checksum of the body. -/
def frameBytes (n cmd : Byte) (fe : Bool) (feat : BitVec 3) (pl : List Byte) : List Byte :=
  [Config.marker] ++ frameBody n cmd fe feat pl ++ [crc8 (frameBody n cmd fe feat pl)]

/-- A frame's bytes are those of a cooling write (R79): feature 0b000 in byte 1, command 0x14 in byte 2. -/
def isCoolingFrame (f : List Byte) : Bool := (f.getD 1 0 &&& 0x07 == 0x00) && f.getD 2 0 == Config.cmdCfg

/-- The payload offsets of the fan mode and fan duty bytes (R140, R143). -/
def fanOffsets : List Nat :=
  [Config.fanModeOfs1, Config.fanModeOfs1 + Config.fanDutyDelta, Config.fanModeOfs2, Config.fanModeOfs2 + Config.fanDutyDelta]

/-- A frame's bytes are those of a fan write: a cooling write whose fan bytes are not all 0x00, as a pump write's are
(R149, R214). Log entry 19. -/
def isFanWrite (f : List Byte) : Bool := isCoolingFrame f && fanOffsets.any fun o => f.getD (3 + o) 0 != 0x00

/-- The pump mode a cooling frame sets, at frame byte 23 (R140). -/
def embeddedMode (f : List Byte) : Byte := f.getD 23 0

/-- The telemetry request, the same for every draw (R127, R170). -/
def tlmRequest : List Byte := [Config.marker, Config.cmdTlm] ++ zeros 61 ++ [0x87]

/-- A frame built with these parameters is a lighting frame (R28): Form A with code 0x04. -/
def isLighting (cmd : Byte) (fe : Bool) : Bool := !fe && cmd == Config.lightCode

end Sys2Proof.Machine
end

