-- ==== Sys2Proof/Machine/Ops.lean ====
section
/-! DEFINITION. The procedures the operations share: drawing a nonce (rule R120), `encode_frame` (R121),
`validate_rx` (R124), reading the LED colors (R146), and telemetry extraction (R173). The shared way to report an
error, `raise`, is in Flags.lean. -/

namespace Sys2Proof.Machine

/-- CRC_REM <- c. -/
def State.putCrc (s : State) (c : Byte) : State := { s with crcRem := c }

/-- Every telemetry field register at once. -/
def State.putTlm (s : State) (t : Telemetry) : State := { s with tlm := t }

/-- The payload bytes a frame carries (R78): PAYLOAD where PL_EN = 1, else sixty bytes of 0x00. -/
def State.framePayload (s : State) (ple : Bool) : List Byte :=
  if ple then s.bytes .payload else zeros Config.payloadLen

/-- The frame `encode_frame` builds in this state with nonce `n` (R121). -/
def State.frameWith (s : State) (n cmd : Byte) (fe : Bool) (feat : BitVec 3) (ple : Bool) : List Byte :=
  frameBytes n cmd fe feat (s.framePayload ple)

/-- `encode_frame` with its nonce given (R121): TX_BUF, CRC_REM and LIGHT_TX. -/
def encodeFrameWith (n cmd : Byte) (fe : Bool) (feat : BitVec 3) (ple : Bool) (s : State) : State :=
  let f := s.frameWith n cmd fe feat ple
  ((s.store .tx f).putCrc (trailer f)).putFlag .lightTx (isLighting cmd fe)

/-- `n <- draw NONCE` (R120): the next nonce of the nonce source. -/
def State.nextNonce (s : State) : Byte := Config.nonce s.draws

/-- The nonce source moves past the nonce just drawn. -/
def State.afterDraw (s : State) : State := { s with draws := s.draws + 1 }

/-- `encode_frame(cmd, fe, feat, ple)` (R121), with exactly one nonce drawn. -/
def encodeFrame (cmd : Byte) (fe : Bool) (feat : BitVec 3) (ple : Bool) (s : State) : State :=
  encodeFrameWith s.nextNonce cmd fe feat ple s.afterDraw

/-- The checksum computed over RX_BUF[1..63) (R124). -/
def State.rxChecksum (s : State) : Byte := crc8 (checkedRange (s.bytes .rx))

/-- RX_BUF holds a valid frame (R123, R124). -/
def State.rxValid (s : State) : Bool := frameValid (s.bytes .rx)

/-- The effects of `validate_rx()` (R124): CRC_REM, CHK_VALID and CHK_MISMATCH. What it returns is `rxValid`. -/
def validateRx (s : State) : State :=
  ((s.putCrc s.rxChecksum).putFlag .chkValid s.rxValid).putFlag .chkMismatch (!s.rxValid)

/-- The color of LED `i` (R37): red, green, blue at LED[3i], LED[3i+1], LED[3i+2]. -/
def State.ledColor (s : State) (i : Nat) : Color :=
  (s.byte .led (3 * i), s.byte .led (3 * i + 1), s.byte .led (3 * i + 2))

/-- The sixteen LED colors in physical order (R37, R146). -/
def State.ledColors (s : State) : List Color := (List.range Config.ledCount).map s.ledColor

/-- The telemetry fields of RX_BUF (R171, R173). -/
def extractTlm (s : State) : Telemetry :=
  { fwMajor := (s.byte .rx 2) >>> 4
    fwMinor := (s.byte .rx 2) &&& 0x0F
    fwPatch := s.byte .rx 3
    tempFrac := s.byte .rx 7
    tempInt := s.byte .rx 8
    pumpDuty := s.byte .rx 28
    pumpMode := pumpModeDecode (s.byte .rx 24)
    pumpModeRaw := s.byte .rx 24
    fan1RpmLo := s.byte .rx 15
    fan1RpmHi := s.byte .rx 16
    fan1Duty := s.byte .rx 14
    fan2RpmLo := s.byte .rx 22
    fan2RpmHi := s.byte .rx 23
    fan2Duty := s.byte .rx 21 }

end Sys2Proof.Machine
end

