-- ==== Sys2Proof/Machine/Control.lean ====
section
/-! DEFINITION. The control operations NOP and CLR_ERR (rules R92, R93). -/

namespace Sys2Proof.Machine

/-- NOP (R92). -/
def execNop (s : State) : Host.Outcome State Fault Refusal := done s

/-- CLR_ERR (R93): STICKY_ERR <- 0 and ERRCODE <- 0x00; the other STATUS flags are kept. -/
def execClrErr (s : State) : Host.Outcome State Fault Refusal :=
  .next { s.putFlag .stickyErr false with errcode := 0x00 }

end Sys2Proof.Machine
end

