-- ==== Sys2Proof/Machine/Operands.lean ====
section
/-! DEFINITION. The operand checks of rules R72 to R74, as the operations make them. -/

namespace Sys2Proof.Machine

/-- The buffer CRC_BUF's SEL names; SEL >= 4 names none (R73, R107). -/
def selBuffer (sel : Byte) : Option Buffer :=
  match sel.toNat with
  | 0 => some .tx
  | 1 => some .rx
  | 2 => some .payload
  | 3 => some .led
  | _ => none

/-- START + LEN, as a sum that does not wrap, does not exceed the buffer's size (R73, R107). -/
def rangeFits (start len : Byte) (b : Buffer) : Bool := start.toNat + len.toNat ≤ b.size

/-- FRAME_ENCODE's reserved operand bits are 0 (R72, R122). -/
def reservedClear (rsvA1 : BitVec 4) (rsvA2 : BitVec 7) : Bool := rsvA1 == 0 && rsvA2 == 0

/-- A pump-mode operand is at most 0x02 (R74, R148). -/
def pumpModeLegal (mode : Byte) : Bool := mode ≤ 0x02#8

end Sys2Proof.Machine
end

