-- ==== Sys2Proof/Machine/Crc.lean ====
section
/-! DEFINITION. The CRC operations (rules R103 to R107). -/

namespace Sys2Proof.Machine

/-- CRC_INIT (R104). -/
def execCrcInit (s : State) : Host.Outcome State Fault Refusal := done (s.putCrc Config.crcInit)

/-- CRC_BYTE (R105). -/
def execCrcByte (data : Byte) (s : State) : Host.Outcome State Fault Refusal :=
  done (s.putCrc (crcStep s.crcRem data))

/-- CRC_ROUND (R106). -/
def execCrcRound (s : State) : Host.Outcome State Fault Refusal := done (s.putCrc (crcRound s.crcRem))

/-- B[START .. START + LEN) of a buffer (R107). -/
def State.slice (s : State) (b : Buffer) (start len : Nat) : List Byte := ((s.bytes b).drop start).take len

/-- CRC_BUF (R107): BAD_ARG is checked before BAD_RANGE; the sum starts from 0x00, not from the old CRC_REM. -/
def execCrcBuf (sel start len : Byte) (s : State) : Host.Outcome State Fault Refusal :=
  match selBuffer sel with
  | none => raise .badArg s
  | some b =>
    if rangeFits start len b then done (s.putCrc (crc8 (s.slice b start.toNat len.toNat)))
    else raise .badRange s

end Sys2Proof.Machine
end

