-- ==== Sys2Proof/Machine/Frame.lean ====
section
/-! DEFINITION. The frame codec operations FRAME_ENCODE and FRAME_VALIDATE (rules R122, R125). -/

namespace Sys2Proof.Machine

/-- FRAME_ENCODE (R122). -/
def execFrameEncode (cmd : Byte) (featEn : Bool) (rsvA1 : BitVec 4) (feat : BitVec 3) (rsvA2 : BitVec 7)
    (plEn : Bool) (s : State) : Host.Outcome State Fault Refusal :=
  if reservedClear rsvA1 rsvA2 then done (encodeFrame cmd featEn feat plEn s) else raise .badArg s

/-- FRAME_VALIDATE (R125): CRC_REM and the CHK flags are written before CHECKSUM_MISMATCH is raised. -/
def execFrameValidate (s : State) : Host.Outcome State Fault Refusal :=
  if s.rxValid then done (validateRx s) else raise .checksumMismatch (validateRx s)

end Sys2Proof.Machine
end

