-- ==== Sys2Proof/Machine/Payload.lean ====
section
/-! DEFINITION. The payload operations (rules R145 to R149). Each rewrites all sixty bytes of PAYLOAD and builds no
frame. -/

namespace Sys2Proof.Machine

/-- PL_CLEAR (R145). -/
def execPlClear (s : State) : Host.Outcome State Fault Refusal := done (s.store .payload (zeros Config.payloadLen))

/-- PL_LIGHT (R146). -/
def execPlLight (s : State) : Host.Outcome State Fault Refusal :=
  done (s.store .payload (lightPayload s.ledColors))

/-- PL_LIGHT_SOLID (R147). -/
def execPlLightSolid (red green blue : Byte) (s : State) : Host.Outcome State Fault Refusal :=
  done (s.store .payload (lightPayload (solidColors red green blue)))

/-- PL_FAN (R148). -/
def execPlFan (pct mode : Byte) (s : State) : Host.Outcome State Fault Refusal :=
  if pumpModeLegal mode then done (s.store .payload (fanLayout pct mode)) else raise .badArg s

/-- PL_PUMP (R149). -/
def execPlPump (mode : Byte) (s : State) : Host.Outcome State Fault Refusal :=
  if pumpModeLegal mode then done (s.store .payload (coolingBase mode)) else raise .badArg s

end Sys2Proof.Machine
end

