-- ==== Sys2Proof/Machine/Subsystem.lean ====
section
/-! DEFINITION. The subsystem write operations (rules R150 to R154): each builds a payload in PAYLOAD and then a frame
in TX_BUF, and writes neither where it raises an error. -/

namespace Sys2Proof.Machine

/-- A lighting write (R79): the payload, then a Form A frame with code 0x04. -/
def sendLighting (pl : List Byte) (s : State) : State :=
  encodeFrame Config.lightCode false 0 true (s.store .payload pl)

/-- A cooling write (R79): the payload, then a Form B frame with feature 0b000 and command 0x14. -/
def sendCooling (pl : List Byte) (s : State) : State :=
  encodeFrame Config.cmdCfg true Config.featCooling true (s.store .payload pl)

/-- TX_LIGHT (R150). -/
def execTxLight (s : State) : Host.Outcome State Fault Refusal :=
  done (sendLighting (lightPayload s.ledColors) s)

/-- TX_LIGHT_SOLID (R151). -/
def execTxLightSolid (red green blue : Byte) (s : State) : Host.Outcome State Fault Refusal :=
  done (sendLighting (lightPayload (solidColors red green blue)) s)

/-- TX_FAN (R152). -/
def execTxFan (pct mode : Byte) (s : State) : Host.Outcome State Fault Refusal :=
  if pumpModeLegal mode then done (sendCooling (fanLayout pct mode) s) else raise .badArg s

/-- TX_FAN_KEEP (R153): validate RX_BUF, then re-embed the pump mode it reports at RX_BUF[24]. -/
def execTxFanKeep (pct : Byte) (s : State) : Host.Outcome State Fault Refusal :=
  if s.rxValid then
    done (sendCooling (fanLayout pct (pumpModeDecode (s.byte .rx 24))) (validateRx s))
  else raise .checksumMismatch (validateRx s)

/-- TX_PUMP (R154). -/
def execTxPump (mode : Byte) (s : State) : Host.Outcome State Fault Refusal :=
  if pumpModeLegal mode then done (sendCooling (coolingBase mode) s) else raise .badArg s

end Sys2Proof.Machine
end

