-- ==== Sys2Proof/Machine/Telemetry.lean ====
section
/-! DEFINITION. The telemetry operations TX_TLM_REQ and TLM_DECODE (rules R170, R173). -/

namespace Sys2Proof.Machine

/-- TX_TLM_REQ (R170): a Form A frame with command 0xFF and no payload; PAYLOAD is neither read nor written. -/
def execTxTlmReq (s : State) : Host.Outcome State Fault Refusal :=
  done (encodeFrame Config.cmdTlm false 0 false s)

/-- TLM_DECODE (R173): validate RX_BUF; extract the fields, or clear every field register and report the mismatch. -/
def execTlmDecode (s : State) : Host.Outcome State Fault Refusal :=
  if s.rxValid then done (((validateRx s).putFlag .tlmValid true).putTlm (extractTlm s))
  else raise .checksumMismatch (((validateRx s).putFlag .tlmValid false).putTlm Telemetry.zero)

end Sys2Proof.Machine
end

