-- ==== Sys2Proof/Machine/Dispatch.lean ====
section
/-! DEFINITION. One arm per operation of rule R75: each calls its meaning. -/

namespace Sys2Proof.Machine

def exec (i : Instr) (s : State) : Host.Outcome State Fault Refusal :=
  match i with
  | .nop => Sys2Proof.Machine.execNop s
  | .crcInit => Sys2Proof.Machine.execCrcInit s
  | .crcByte data => Sys2Proof.Machine.execCrcByte data s
  | .crcRound => Sys2Proof.Machine.execCrcRound s
  | .crcBuf sel start len => Sys2Proof.Machine.execCrcBuf sel start len s
  | .clrErr => Sys2Proof.Machine.execClrErr s
  | .frameEncode cmd featEn rsvA1 feat rsvA2 plEn => Sys2Proof.Machine.execFrameEncode cmd featEn rsvA1 feat rsvA2 plEn s
  | .frameValidate => Sys2Proof.Machine.execFrameValidate s
  | .plClear => Sys2Proof.Machine.execPlClear s
  | .plLight => Sys2Proof.Machine.execPlLight s
  | .plLightSolid red green blue => Sys2Proof.Machine.execPlLightSolid red green blue s
  | .plFan pct mode => Sys2Proof.Machine.execPlFan pct mode s
  | .plPump mode => Sys2Proof.Machine.execPlPump mode s
  | .tlmDecode => Sys2Proof.Machine.execTlmDecode s
  | .txTlmReq => Sys2Proof.Machine.execTxTlmReq s
  | .txLight => Sys2Proof.Machine.execTxLight s
  | .txLightSolid red green blue => Sys2Proof.Machine.execTxLightSolid red green blue s
  | .txFan pct mode => Sys2Proof.Machine.execTxFan pct mode s
  | .txFanKeep pct => Sys2Proof.Machine.execTxFanKeep pct s
  | .txPump mode => Sys2Proof.Machine.execTxPump mode s

end Sys2Proof.Machine
end

