-- ==== Sys2Proof/Machine/Issue.lean ====
section
/-! DEFINITION. Issuing an operation (rules R90, R94): the host's write to OPCODE stores the byte, samples the
operands, decodes and performs the operation, all in one step. -/

namespace Sys2Proof.Machine

/-- The command word's four bytes at issue, lowest address first (R70, R90). -/
def State.commandBytes (s : State) : List Byte := [s.arg0, s.arg1, s.arg2, s.opcode]

/-- Perform the operation the command registers now hold; an undefined opcode raises BAD_OPCODE (R90, R94). -/
def perform (s : State) : Host.Outcome State Fault Refusal :=
  match decode s.commandBytes with
  | .ok (i, _) => exec i s
  | .error _ => raise .badOpcode s

/-- A host write of `v` to OPCODE (R23, R90). -/
def issue (v : Byte) (s : State) : Host.Outcome State Fault Refusal := perform (s.writeLoc .opcode v)

/-- MemWrite(addr, 1, v) (R51, R53). -/
def busWrite (a : Addr) (v : Byte) (s : State) : Host.Outcome State Fault Refusal :=
  match locate a with
  | .opcode => issue v s
  | l => .next (s.writeLoc l v)

end Sys2Proof.Machine
end

