-- ==== Sys2Proof/Machine/HostAgent.lean ====
section
/-! DEFINITION. The host agent (rules R5, R80, R213, R214, R221, R222): what each of its events does, the reset input
(R210), and the host statements that stand for several accesses (R80). -/

namespace Sys2Proof.Machine

/-- The value an `lb` returned joins the run's observed reads (R221). -/
def State.logRead (s : State) (v : Byte) : State :=
  { s with host := { s.host with reads := s.host.reads ++ [v] } }

/-- Handing a frame to the transport (R62, R221): a lighting frame starts the 5 ms settle time (R213), a telemetry
request starts the wait for its 64 response bytes, and a cooling write makes what was learnt before it stale (R214). -/
def HostSide.handOver (h : HostSide) (f : List Byte) (light : Bool) : HostSide :=
  { h with
    frames := h.frames ++ [f]
    settle := if light then Config.lightSettleMs else 0
    awaited := if f = tlmRequest then some (List.range Config.frameLen) else if isCoolingFrame f then none else h.awaited
    learntMode := if isCoolingFrame f then none else h.learntMode }

/-- TX_BUF[0..64) is handed to the transport (R62, R221). -/
def State.handOver (s : State) : State := { s with host := s.host.handOver (s.bytes .tx) (s.flag .lightTx) }

/-- The duty of a fan write (R214): its pump mode is the one learnt since the last cooling write. -/
def HostSide.mayHandOver (h : HostSide) (f : List Byte) : Bool :=
  !isFanWrite f || h.learntMode == some (embeddedMode f)

/-- Byte `k` of an awaited response has been written into RX_BUF. With the last of the 64 the response is whole (R218):
where its checksum matches, the host learns the pump mode it reports (R172, R214); else it is not interpreted (R26). -/
def State.noteResponse (s : State) (k : Nat) : State :=
  match s.host.awaited with
  | none => s
  | some ks =>
    if ks.all (· == k) then
      { s with host := { s.host with
          awaited := none
          learntMode := if s.rxValid then some (pumpModeDecode (s.byte .rx 24)) else s.host.learntMode } }
    else { s with host := { s.host with awaited := some (ks.filter (· != k)) } }

/-- `sb addr, v` (R80): the bus write; a byte written into RX_BUF is also noted as a response byte. -/
def hostWrite (a : Addr) (v : Byte) (s : State) : Host.Outcome State Fault Refusal :=
  match locate a with
  | .buf .rx k => .next ((s.writeLoc (.buf .rx k) v).noteResponse k)
  | _ => busWrite a v s

/-- The host waits (R80, R213). -/
def State.passTime (s : State) (t : Nat) : State :=
  { s with host := { s.host with settle := s.host.settle - t } }

/-- What the host's side is after the reset input: the host keeps its own state (R41), but the bytes of an awaited
response that stood in RX_BUF are gone, so all 64 must be written again (R218). -/
def HostSide.afterReset (h : HostSide) : HostSide :=
  { h with awaited := h.awaited.map fun _ => List.range Config.frameLen }

/-- The reset input is asserted (R210): every element of LRPE's state takes its reset value. The nonce source draws
nothing and is not rewound, and the host keeps its own state (R40, R41). -/
def resetInput (s : State) : State := { State.reset with draws := s.draws, host := s.host.afterReset }

/-- `xmit` (R80). Sending a frame before the settle time is over, or a fan write with a stale pump mode, has no move
(R213, R214, R222, 93_implementation_defined.md item 9). -/
def transmit (s : State) : Host.Outcome State Fault Refusal :=
  if s.host.settle ≠ 0 then .fault .settleTimeBroken
  else if s.host.mayHandOver (s.bytes .tx) then .next s.handOver
  else .fault .stalePumpMode

/-- What one event of the outside world does. -/
def hostAct (e : HostEvent) (s : State) : Host.Outcome State Fault Refusal :=
  match e with
  | .sb a v => hostWrite a v s
  | .lb a => .next (s.logRead (busRead a s))
  | .xmit => transmit s
  | .waitMs t => .next (s.passTime t)
  | .reset => .next (resetInput s)

/-- The next event is taken from the host's sequence. -/
def State.popEvent (s : State) (rest : List HostEvent) : State :=
  { s with host := { s.host with pending := rest } }

/-- `MNEMONIC a0, a1, a2` (R80): the four writes, operands first. -/
def issueWrites (a0 a1 a2 op : Byte) : List HostEvent := [.sb 0x000 a0, .sb 0x001 a1, .sb 0x002 a2, .sb 0x003 op]

/-- The host statement that issues an operation (R80). -/
def issueInstr (i : Instr) : List HostEvent :=
  issueWrites (operandsOf i).1 (operandsOf i).2.1 (operandsOf i).2.2 (opcodeOf i)

/-- `ENC cmd` and `ENC cmd, PL` (R80). -/
def encStmt (cmd : Byte) (pl : Bool) : List HostEvent := issueWrites cmd 0x00 (if pl then 0x01 else 0x00) 0x10

/-- `ENCF feat, cmd` and `ENCF feat, cmd, PL` (R80). -/
def encfStmt (feat cmd : Byte) (pl : Bool) : List HostEvent :=
  issueWrites cmd (0x80 ||| feat) (if pl then 0x01 else 0x00) 0x10

/-- Host writes of consecutive bytes from an address upward. -/
def sbBytes (a : Nat) : List Byte → List HostEvent
  | [] => []
  | v :: vs => .sb (BitVec.ofNat 9 a) v :: sbBytes (a + 1) vs

/-- `recv b0 .. b63` (R80): the response bytes are written into RX_BUF in index order (R56). -/
def recvStmt (bs : List Byte) : List HostEvent := sbBytes Buffer.rx.base bs

end Sys2Proof.Machine
end

