-- ==== Sys2Proof/Machine/Step.lean ====
section
/-! DEFINITION. One step of the machine: the next event of the host's sequence takes effect, whole, before the one
after it (rules R57, R59, R221). LRPE is idle between accesses (R90), so with no event left nothing changes. -/

namespace Sys2Proof.Machine

/-- One step (R59, R90, R221). -/
def step (s : State) : Host.Outcome State Fault Refusal :=
  match s.host.pending with
  | [] => .next s
  | e :: rest => hostAct e (s.popEvent rest)

/-- The command word `w` (of `nbits` bits, the others 0) made the next operation to run: its operand bytes stand in
ARG0 to ARG2, and the host's next access writes its OPCODE byte, which issues it (R70, R90). Log entry 2. -/
def State.withFetchWord (s : State) (nbits w : Nat) : State :=
  let v := w % 2 ^ nbits
  { s with
    arg0 := byteOfNat v 0
    arg1 := byteOfNat v 1
    arg2 := byteOfNat v 2
    host := { s.host with pending := .sb 0x003 (byteOfNat v 3) :: s.host.pending } }

end Sys2Proof.Machine
end

