-- ==== Sys2Proof/Machine/Measure.lean ====
section
/-! DEFINITION. The meaning of the telemetry field registers (rules R174 to R181): exact rational values, and the
nearest hundredth where the source shows two decimals. -/

namespace Sys2Proof.Machine

/-- The decimal numeral of a byte with no leading zeros, "0" for zero (R175). -/
def decText (v : Byte) : List Char := Nat.toDigits 10 v.toNat

/-- The firmware version's text, FW_MAJOR "." FW_MINOR "." FW_PATCH (R175). -/
def firmwareText (t : Telemetry) : List Char :=
  decText t.fwMajor ++ ['.'] ++ decText t.fwMinor ++ ['.'] ++ decText t.fwPatch

/-- Liquid temperature in °C (R176): TEMP_INT + TEMP_FRAC / 255. -/
def liquidTemp (t : Telemetry) : Rat := (t.tempInt.toNat : Rat) + (t.tempFrac.toNat : Rat) / 255

/-- A duty byte in percent (R177, R180): b * 100 / 255. -/
def dutyPercent (b : Byte) : Rat := (b.toNat : Rat) * 100 / 255

/-- A fan's speed (R54, R55, R179): the high byte times 256 plus the low byte. -/
def rpm (hi lo : Byte) : Nat := hi.toNat * 256 + lo.toNat

/-- The pump mode a code names (R178); TLM_DECODE leaves no other code. -/
def pumpModeName (b : Byte) : Option PumpMode :=
  if b = PumpMode.quiet.code then some .quiet
  else if b = PumpMode.balanced.code then some .balanced
  else if b = PumpMode.extreme.code then some .extreme
  else none

/-- The number of hundredths nearest a value (R181), for display to two decimal places. -/
def hundredths (q : Rat) : Int := (q * 100 + 1 / 2).floor

/-- One measurement of the report (R174). -/
inductive Measurement where
  | firmware (text : List Char)
  | liquidTemp (celsius : Rat)
  | pumpDuty (percent : Rat)
  | pumpMode (mode : Option PumpMode)
  | fan1Rpm (rpm : Nat)
  | fan1Duty (percent : Rat)
  | fan2Rpm (rpm : Nat)
  | fan2Duty (percent : Rat)
  deriving DecidableEq, Repr

/-- The measurements in the order of rule R174; none where the last TLM_DECODE failed ("returns an empty sequence",
R173). -/
def measurements (s : State) : List Measurement :=
  if s.flag .tlmValid then
    [.firmware (firmwareText s.tlm), .liquidTemp (liquidTemp s.tlm), .pumpDuty (dutyPercent s.tlm.pumpDuty),
     .pumpMode (pumpModeName s.tlm.pumpMode), .fan1Rpm (rpm s.tlm.fan1RpmHi s.tlm.fan1RpmLo),
     .fan1Duty (dutyPercent s.tlm.fan1Duty), .fan2Rpm (rpm s.tlm.fan2RpmHi s.tlm.fan2RpmLo),
     .fan2Duty (dutyPercent s.tlm.fan2Duty)]
  else []

end Sys2Proof.Machine
end

