-- ==== Sys2Proof/WellFormed.lean ====
section
/-! DEFINITION. Which operands the spec calls legal (rules R72 to R74). Every operand is held at exactly the width
of its field, so every `Instr` has an encoding; an operation whose operands are not legal is still decoded and run,
and ends in the error the spec names (rule R76: "they are not a decoding matter"). Log entry 14. -/

namespace Sys2Proof

/-- The size in bytes of the buffer that CRC_BUF's SEL names, or nothing where SEL >= 4 (R73). -/
def selSize : Nat → Option Nat
  | 0 => some 64
  | 1 => some 64
  | 2 => some 60
  | 3 => some 48
  | _ => none

/-- SEL names a buffer and START + LEN, summed without wrap, stays within it (R73). -/
def crcRangeWf (sel start len : Byte) : Bool :=
  match selSize sel.toNat with
  | none => false
  | some n => start.toNat + len.toNat ≤ n

/-- FRAME_ENCODE's reserved operand bits are 0 (R72). -/
def reservedWf (rsvA1 : BitVec 4) (rsvA2 : BitVec 7) : Bool := rsvA1 == 0 && rsvA2 == 0

/-- A pump-mode operand is 0x00, 0x01 or 0x02 (R74). -/
def pumpModeWf (mode : Byte) : Bool := mode.toNat ≤ 2

/-- The operands are legal: the operation raises neither BAD_ARG nor BAD_RANGE (R72, R73, R74). -/
def Instr.wellFormed : Instr → Bool
  | .nop => true
  | .crcInit => true
  | .crcByte _ => true
  | .crcRound => true
  | .crcBuf sel start len => crcRangeWf sel start len
  | .clrErr => true
  | .frameEncode _ _ rsvA1 _ rsvA2 _ => reservedWf rsvA1 rsvA2
  | .frameValidate => true
  | .plClear => true
  | .plLight => true
  | .plLightSolid _ _ _ => true
  | .plFan _ mode => pumpModeWf mode
  | .plPump mode => pumpModeWf mode
  | .tlmDecode => true
  | .txTlmReq => true
  | .txLight => true
  | .txLightSolid _ _ _ => true
  | .txFan _ mode => pumpModeWf mode
  | .txFanKeep _ => true
  | .txPump mode => pumpModeWf mode

end Sys2Proof
end

