-- ==== Sys2Proof/Safety.lean ====
section
/-! DEFINITION. The terms claims are made in: the invariants of a run, what an operation leaves alone, which operations
write what, and the layouts stated byte index by byte index as the spec's tables give them. -/

namespace Sys2Proof.Machine

/-! ### Invariants -/

/-- The buffers' memory is canonical and lists buffer addresses only (R20, R21). -/
structure State.MemoryForm (s : State) : Prop where
  canonical : s.mem.wf
  mapped : ∀ c ∈ s.mem, isBufferAddr c.1 = true

/-- What STATUS and ERRCODE may hold: reserved bits 0 (R30), a code 0 to 4 (R31, R190), never both CHK flags (R25), and
an error code recorded in STICKY_ERR (R29). -/
structure State.StatusForm (s : State) : Prop where
  reserved : s.status >>> 5 = 0#8
  errcode : s.errcode.toNat ≤ 4
  chk : ¬ (s.flag .chkValid = true ∧ s.flag .chkMismatch = true)
  sticky : s.errcode ≠ 0x00 → s.flag .stickyErr = true

/-- What the telemetry field registers may hold: 0x00 while TLM_VALID = 0 (R27); four-bit version numbers (R175); the
pump mode its raw byte decodes to (R178). -/
structure State.FieldsForm (s : State) : Prop where
  cleared : s.flag .tlmValid = false → s.tlm = Telemetry.zero
  major : s.tlm.fwMajor.toNat < 16
  minor : s.tlm.fwMinor.toNat < 16
  mode : s.tlm.pumpMode = pumpModeDecode s.tlm.pumpModeRaw

/-- What TX_BUF and the frames sent may be: TX_BUF is valid (R126), and is a marked frame or still all 0x00 (R34); with
LIGHT_TX = 1 it is a Form A frame with code 0b100 (R28); every frame handed over is 64 bytes and valid (R126). Of the
model's own host side (log entries 9, 19): the settle time is at most 5 ms, an awaited response awaits some index below
64, and a learnt pump mode is a PumpMode code. -/
structure State.FramesForm (s : State) : Prop where
  valid : frameValid (s.bytes .tx) = true
  marked : s.byte .tx 0 = 0x3F ∨ s.bytes .tx = zeros 64
  lighting : s.flag .lightTx = true → s.byte .tx 1 &&& 0x07 = 0x04 ∧ s.byte .tx 62 = 0x00
  sent : ∀ f ∈ s.host.frames, f.length = 64 ∧ frameValid f = true
  settle : s.host.settle ≤ 5
  awaited : ∀ ks, s.host.awaited = some ks → ks ≠ [] ∧ ∀ k ∈ ks, k < 64
  learnt : ∀ m, s.host.learntMode = some m → m.toNat ≤ 2

/-- A step that does not stop the machine. -/
def Safe (o : Host.Outcome State Fault Refusal) : Prop := ∃ t, o = .next t

/-! ### What is left alone -/

/-- Everything an operation leaves alone but CRC_REM, ERRCODE, the telemetry fields and the draw count: the operand
registers, OPCODE and the host's side; every STATUS bit but those of the flags `fs`; every byte of memory outside the
buffers `bs`. -/
structure KeepsAllBut (fs : List StatusFlag) (bs : List Buffer) (s t : State) : Prop where
  arg0 : t.arg0 = s.arg0
  arg1 : t.arg1 = s.arg1
  arg2 : t.arg2 = s.arg2
  opcode : t.opcode = s.opcode
  host : t.host = s.host
  status : ∀ k, k < 8 → (∀ f ∈ fs, f.bit ≠ k) → t.status.getLsbD k = s.status.getLsbD k
  mem : ∀ a, (∀ b ∈ bs, ¬ (b.base ≤ a ∧ a < b.base + b.size)) → t.mem.read a = s.mem.read a

/-! ### Which operations write what -/

/-- The opcodes of rule R75. -/
def definedOpcodes : List Byte :=
  [0x00, 0x01, 0x02, 0x03, 0x04, 0x0F, 0x10, 0x11, 0x20, 0x21, 0x22, 0x23, 0x24, 0x30, 0x40, 0x41, 0x42, 0x43, 0x44, 0x45]

/-- Which of a0, a1, a2 an operation uses (R75; "-" in the opcode map means ignored). -/
def operandsUsed : Instr → Bool × Bool × Bool
  | .nop => (false, false, false)
  | .crcInit => (false, false, false)
  | .crcByte _ => (true, false, false)
  | .crcRound => (false, false, false)
  | .crcBuf _ _ _ => (true, true, true)
  | .clrErr => (false, false, false)
  | .frameEncode _ _ _ _ _ _ => (true, true, true)
  | .frameValidate => (false, false, false)
  | .plClear => (false, false, false)
  | .plLight => (false, false, false)
  | .plLightSolid _ _ _ => (true, true, true)
  | .plFan _ _ => (true, true, false)
  | .plPump _ => (true, false, false)
  | .tlmDecode => (false, false, false)
  | .txTlmReq => (false, false, false)
  | .txLight => (false, false, false)
  | .txLightSolid _ _ _ => (true, true, true)
  | .txFan _ _ => (true, true, false)
  | .txFanKeep _ => (true, false, false)
  | .txPump _ => (true, false, false)

/-- The operations that run `validate_rx` (R25). -/
def validates : Instr → Bool
  | .nop => false
  | .crcInit => false
  | .crcByte _ => false
  | .crcRound => false
  | .crcBuf _ _ _ => false
  | .clrErr => false
  | .frameEncode _ _ _ _ _ _ => false
  | .frameValidate => true
  | .plClear => false
  | .plLight => false
  | .plLightSolid _ _ _ => false
  | .plFan _ _ => false
  | .plPump _ => false
  | .tlmDecode => true
  | .txTlmReq => false
  | .txLight => false
  | .txLightSolid _ _ _ => false
  | .txFan _ _ => false
  | .txFanKeep _ => true
  | .txPump _ => false

/-- The operations that build a frame (R28). -/
def buildsFrame : Instr → Bool
  | .nop => false
  | .crcInit => false
  | .crcByte _ => false
  | .crcRound => false
  | .crcBuf _ _ _ => false
  | .clrErr => false
  | .frameEncode _ _ _ _ _ _ => true
  | .frameValidate => false
  | .plClear => false
  | .plLight => false
  | .plLightSolid _ _ _ => false
  | .plFan _ _ => false
  | .plPump _ => false
  | .tlmDecode => false
  | .txTlmReq => true
  | .txLight => true
  | .txLightSolid _ _ _ => true
  | .txFan _ _ => true
  | .txFanKeep _ => true
  | .txPump _ => true

/-- The operations that rewrite PAYLOAD (R36). -/
def writesPayload : Instr → Bool
  | .nop => false
  | .crcInit => false
  | .crcByte _ => false
  | .crcRound => false
  | .crcBuf _ _ _ => false
  | .clrErr => false
  | .frameEncode _ _ _ _ _ _ => false
  | .frameValidate => false
  | .plClear => true
  | .plLight => true
  | .plLightSolid _ _ _ => true
  | .plFan _ _ => true
  | .plPump _ => true
  | .tlmDecode => false
  | .txTlmReq => false
  | .txLight => true
  | .txLightSolid _ _ _ => true
  | .txFan _ _ => true
  | .txFanKeep _ => true
  | .txPump _ => true

/-- The operations that write CRC_REM (R32, R215). -/
def writesCrc : Instr → Bool
  | .nop => false
  | .crcInit => true
  | .crcByte _ => true
  | .crcRound => true
  | .crcBuf _ _ _ => true
  | .clrErr => false
  | .frameEncode _ _ _ _ _ _ => true
  | .frameValidate => true
  | .plClear => false
  | .plLight => false
  | .plLightSolid _ _ _ => false
  | .plFan _ _ => false
  | .plPump _ => false
  | .tlmDecode => true
  | .txTlmReq => true
  | .txLight => true
  | .txLightSolid _ _ _ => true
  | .txFan _ _ => true
  | .txFanKeep _ => true
  | .txPump _ => true

/-- The code an operation with illegal operands ends in (R73, R74, R193): BAD_RANGE where only the range is wrong. -/
def operandError : Instr → ErrCode
  | .crcBuf sel _ _ => if sel.toNat < 4 then .badRange else .badArg
  | _ => .badArg

/-! ### Checksums over buffers -/

/-- crc8 of bytes `start` to `start + len - 1` of a buffer (R102). -/
def bufferSum (s : State) (b : Buffer) (start len : Nat) : Byte :=
  crc8 ((List.range len).map fun k => s.byte b (start + k))

/-- RX_BUF's checksum matches (R123). -/
abbrev rxMatches (s : State) : Prop := bufferSum s .rx 1 62 = s.byte .rx 63

/-- crc_step(0x00, b) for every b, the table of 95_test_vectors.md section 2.1. -/
def crcTable : List Byte :=
     [0x00, 0x07, 0x0E, 0x09, 0x1C, 0x1B, 0x12, 0x15, 0x38, 0x3F, 0x36, 0x31, 0x24, 0x23, 0x2A, 0x2D]
  ++ [0x70, 0x77, 0x7E, 0x79, 0x6C, 0x6B, 0x62, 0x65, 0x48, 0x4F, 0x46, 0x41, 0x54, 0x53, 0x5A, 0x5D]
  ++ [0xE0, 0xE7, 0xEE, 0xE9, 0xFC, 0xFB, 0xF2, 0xF5, 0xD8, 0xDF, 0xD6, 0xD1, 0xC4, 0xC3, 0xCA, 0xCD]
  ++ [0x90, 0x97, 0x9E, 0x99, 0x8C, 0x8B, 0x82, 0x85, 0xA8, 0xAF, 0xA6, 0xA1, 0xB4, 0xB3, 0xBA, 0xBD]
  ++ [0xC7, 0xC0, 0xC9, 0xCE, 0xDB, 0xDC, 0xD5, 0xD2, 0xFF, 0xF8, 0xF1, 0xF6, 0xE3, 0xE4, 0xED, 0xEA]
  ++ [0xB7, 0xB0, 0xB9, 0xBE, 0xAB, 0xAC, 0xA5, 0xA2, 0x8F, 0x88, 0x81, 0x86, 0x93, 0x94, 0x9D, 0x9A]
  ++ [0x27, 0x20, 0x29, 0x2E, 0x3B, 0x3C, 0x35, 0x32, 0x1F, 0x18, 0x11, 0x16, 0x03, 0x04, 0x0D, 0x0A]
  ++ [0x57, 0x50, 0x59, 0x5E, 0x4B, 0x4C, 0x45, 0x42, 0x6F, 0x68, 0x61, 0x66, 0x73, 0x74, 0x7D, 0x7A]
  ++ [0x89, 0x8E, 0x87, 0x80, 0x95, 0x92, 0x9B, 0x9C, 0xB1, 0xB6, 0xBF, 0xB8, 0xAD, 0xAA, 0xA3, 0xA4]
  ++ [0xF9, 0xFE, 0xF7, 0xF0, 0xE5, 0xE2, 0xEB, 0xEC, 0xC1, 0xC6, 0xCF, 0xC8, 0xDD, 0xDA, 0xD3, 0xD4]
  ++ [0x69, 0x6E, 0x67, 0x60, 0x75, 0x72, 0x7B, 0x7C, 0x51, 0x56, 0x5F, 0x58, 0x4D, 0x4A, 0x43, 0x44]
  ++ [0x19, 0x1E, 0x17, 0x10, 0x05, 0x02, 0x0B, 0x0C, 0x21, 0x26, 0x2F, 0x28, 0x3D, 0x3A, 0x33, 0x34]
  ++ [0x4E, 0x49, 0x40, 0x47, 0x52, 0x55, 0x5C, 0x5B, 0x76, 0x71, 0x78, 0x7F, 0x6A, 0x6D, 0x64, 0x63]
  ++ [0x3E, 0x39, 0x30, 0x37, 0x22, 0x25, 0x2C, 0x2B, 0x06, 0x01, 0x08, 0x0F, 0x1A, 0x1D, 0x14, 0x13]
  ++ [0xAE, 0xA9, 0xA0, 0xA7, 0xB2, 0xB5, 0xBC, 0xBB, 0x96, 0x91, 0x98, 0x9F, 0x8A, 0x8D, 0x84, 0x83]
  ++ [0xDE, 0xD9, 0xD0, 0xD7, 0xC2, 0xC5, 0xCC, 0xCB, 0xE6, 0xE1, 0xE8, 0xEF, 0xFA, 0xFD, 0xF4, 0xF3]

/-- The checksum computed with that table: crc_step(r, b) = T[r xor b]. -/
def crc8ByTable (bs : List Byte) : Byte := bs.foldl (fun r b => crcTable.getD (r ^^^ b).toNat 0) 0x00

/-! ### Layouts by byte index -/

/-- Byte `k` of `cooling_base(mode)` by rule R140's table. -/
def coolingByte (mode : Byte) (k : Nat) : Byte :=
  if k = 1 then 0xFF
  else if k = 2 then 0x05
  else if 3 ≤ k ∧ k ≤ 7 then 0xFF
  else if k = 20 then mode
  else if k = 26 then 0x07
  else 0x00

/-- Byte `k` of a fan payload with duty byte `d` (R140, R143, R148). -/
def fanByte (d mode : Byte) (k : Nat) : Byte :=
  if k = Config.fanModeOfs1 ∨ k = Config.fanModeOfs2 then 0x02
  else if k = Config.fanModeOfs1 + 5 ∨ k = Config.fanModeOfs2 + 5 then d
  else coolingByte mode k

/-- Byte `k` of a lighting payload whose LED `i` has color `c i` (R144): green, red, blue at 3i+1, 3i+2, 3i+3. -/
def lightByte (c : Nat → Color) (k : Nat) : Byte :=
  if k = 0 ∨ 49 ≤ k then 0x00
  else if k % 3 = 1 then (c ((k - 1) / 3)).2.1
  else if k % 3 = 2 then (c ((k - 1) / 3)).1
  else (c ((k - 1) / 3)).2.2

/-- `duty_byte(p)` as a number (R141). -/
def dutyNumber (p : Byte) : Nat := min 255 ((p.toNat * 255 + 50) / 100)

/-- PAYLOAD holds these sixty bytes. -/
def PayloadIs (t : State) (p : Nat → Byte) : Prop := ∀ k, k < 60 → t.byte .payload k = p k

/-- TX_BUF holds a Form A frame with byte 1 `b1` and payload `p`, and CRC_REM its checksum (R78, R121). -/
structure FormA (t : State) (b1 : Byte) (p : Nat → Byte) : Prop where
  marker : t.byte .tx 0 = 0x3F
  code : t.byte .tx 1 = b1
  payload : ∀ k, k < 60 → t.byte .tx (2 + k) = p k
  pad : t.byte .tx 62 = 0x00
  checksum : t.byte .tx 63 = bufferSum t .tx 1 62
  remainder : t.crcRem = t.byte .tx 63

/-- TX_BUF holds a Form B frame with byte 1 `b1`, command `cmd` and payload `p`, and CRC_REM its checksum (R78, R121). -/
structure FormB (t : State) (b1 cmd : Byte) (p : Nat → Byte) : Prop where
  marker : t.byte .tx 0 = 0x3F
  code : t.byte .tx 1 = b1
  command : t.byte .tx 2 = cmd
  payload : ∀ k, k < 60 → t.byte .tx (3 + k) = p k
  checksum : t.byte .tx 63 = bufferSum t .tx 1 62
  remainder : t.crcRem = t.byte .tx 63

/-! ### What TX_BUF holds, by byte index -/

/-- TX_BUF holds a cooling write: feature 0b000 in byte 1, command 0x14 in byte 2 (R79). -/
def HoldsCooling (s : State) : Prop := s.byte .tx 1 &&& 0x07 = 0x00 ∧ s.byte .tx 2 = 0x14

/-- TX_BUF holds a fan write: a cooling write with a fan mode or fan duty byte other than 0x00 (R140, R149, R214). -/
def HoldsFanWrite (s : State) : Prop :=
  HoldsCooling s ∧ ∃ o ∈ [Config.fanModeOfs1, Config.fanModeOfs1 + 5, Config.fanModeOfs2, Config.fanModeOfs2 + 5],
    s.byte .tx (3 + o) ≠ 0x00

/-- TX_BUF holds the telemetry request: 3F FF, 61 bytes 00, 87 (R127, R170). -/
def HoldsTlmRequest (s : State) : Prop :=
  s.byte .tx 0 = 0x3F ∧ s.byte .tx 1 = 0xFF ∧ (∀ k, 2 ≤ k → k < 63 → s.byte .tx k = 0x00) ∧ s.byte .tx 63 = 0x87

end Sys2Proof.Machine
end

