-- ==== Sys2Proof/Certificates/Slice0/Obligations.lean ====
section
/-! DEFINITION. What is claimed of LRPE, for the provers. Each statement says in its docstring which rule of the spec
it formalises. -/

open Sys2Proof Sys2Proof.Machine

/-! ### Encoding -/

/-- O1. Decoding the bytes of any operation gives the operation back and leaves the bytes after it (R70, R72, R75). -/
def Obligations.DecodeInvertsEncode : Prop :=
  ∀ (i : Instr) (rest : List Byte), decode (encode i ++ rest) = .ok (i, rest)

/-- O2. The opcode map of R75, each operand taken from its byte (FRAME_ENCODE's fields from the bits of R72), and every
other opcode rejected by name, whatever the operand bytes. -/
def Obligations.OpcodeMapIsTheTable : Prop :=
  ∀ a0 a1 a2 : Byte,
    decodeOp a0 a1 a2 0x00 = .ok .nop ∧
    decodeOp a0 a1 a2 0x01 = .ok .crcInit ∧
    decodeOp a0 a1 a2 0x02 = .ok (.crcByte a0) ∧
    decodeOp a0 a1 a2 0x03 = .ok .crcRound ∧
    decodeOp a0 a1 a2 0x04 = .ok (.crcBuf a0 a1 a2) ∧
    decodeOp a0 a1 a2 0x0F = .ok .clrErr ∧
    decodeOp a0 a1 a2 0x10 = .ok (.frameEncode a0 (a1.getLsbD 7) (BitVec.ofNat 4 (a1.toNat / 8))
      (BitVec.ofNat 3 a1.toNat) (BitVec.ofNat 7 (a2.toNat / 2)) (a2.getLsbD 0)) ∧
    decodeOp a0 a1 a2 0x11 = .ok .frameValidate ∧
    decodeOp a0 a1 a2 0x20 = .ok .plClear ∧
    decodeOp a0 a1 a2 0x21 = .ok .plLight ∧
    decodeOp a0 a1 a2 0x22 = .ok (.plLightSolid a0 a1 a2) ∧
    decodeOp a0 a1 a2 0x23 = .ok (.plFan a0 a1) ∧
    decodeOp a0 a1 a2 0x24 = .ok (.plPump a0) ∧
    decodeOp a0 a1 a2 0x30 = .ok .tlmDecode ∧
    decodeOp a0 a1 a2 0x40 = .ok .txTlmReq ∧
    decodeOp a0 a1 a2 0x41 = .ok .txLight ∧
    decodeOp a0 a1 a2 0x42 = .ok (.txLightSolid a0 a1 a2) ∧
    decodeOp a0 a1 a2 0x43 = .ok (.txFan a0 a1) ∧
    decodeOp a0 a1 a2 0x44 = .ok (.txFanKeep a0) ∧
    decodeOp a0 a1 a2 0x45 = .ok (.txPump a0) ∧
    ∀ op : Byte, op ∉ definedOpcodes → decodeOp a0 a1 a2 op = .error (.badOpcode op)

/-- O3. What is decoded holds the issued bytes: the opcode, and every operand byte the operation uses (R70, R71). -/
def Obligations.DecodedOperandsAreTheIssuedBytes : Prop :=
  ∀ (a0 a1 a2 op : Byte) (i : Instr), decodeOp a0 a1 a2 op = .ok i →
    opcodeOf i = op ∧
    ((operandsUsed i).1 = true → (operandsOf i).1 = a0) ∧
    ((operandsUsed i).2.1 = true → (operandsOf i).2.1 = a1) ∧
    ((operandsUsed i).2.2 = true → (operandsOf i).2.2 = a2)

/-- O4. Command words of 95_test_vectors.md, as the opcode table numbers their bits. -/
def Obligations.SampleCommandWordsDecode : Prop :=
  decodeTableWord 32 0x02000031 = some (.crcByte 0x31) ∧
  decodeTableWord 32 0x043C0102 = some (.crcBuf 2 1 60) ∧
  decodeTableWord 32 0x10018014 = some (.frameEncode 0x14 true 0 0 0 true) ∧
  decodeTableWord 32 0x10000714 = some (.frameEncode 0x14 false 0 7 0 false) ∧
  decodeTableWord 32 0x10000814 = some (.frameEncode 0x14 false 1 0 0 false) ∧
  decodeTableWord 32 0x23000132 = some (.plFan 50 1) ∧
  decodeTableWord 32 0x420000FF = some (.txLightSolid 0xFF 0 0) ∧
  decodeTableWord 32 0x0F000000 = some .clrErr ∧
  decodeTableWord 32 0x99000000 = none

/-! ### Issue, the bus, reset and the host -/

/-- O5. R90: a host write to OPCODE stores the byte and performs the operation that the operand registers and that
byte decode to, in one step. -/
def Obligations.IssueRunsTheDecodedOperation : Prop :=
  ∀ (s : State) (v : Byte) (rest : List HostEvent) (i : Instr),
    s.host.pending = .sb 0x003 v :: rest → decodeOp s.arg0 s.arg1 s.arg2 v = .ok i →
    step s = exec i { s with opcode := v, host := { s.host with pending := rest } }

/-- O6. R94: an undefined opcode writes OPCODE, ERRCODE <- 1 and STICKY_ERR <- 1, and nothing else changes. -/
def Obligations.UndefinedOpcodeOnlyRecordsBadOpcode : Prop :=
  ∀ (s : State) (v : Byte) (rest : List HostEvent),
    s.host.pending = .sb 0x003 v :: rest → v ∉ definedOpcodes →
    ∃ t, step s = .next t ∧ t.opcode = v ∧ t.errcode = 0x01 ∧ t.flag .stickyErr = true ∧
      (∀ k, k < 8 → k ≠ 4 → t.status.getLsbD k = s.status.getLsbD k) ∧
      (∀ a : Addr, a ≠ 0x003 → a ≠ 0x004 → a ≠ 0x005 → busRead a t = busRead a s) ∧
      t.draws = s.draws ∧ t.host = { s.host with pending := rest }

/-- O7. The very next step after `withFetchWord` performs the operation the word decodes to (R70, R90; the loading of
the operand registers is the model's choice, log entry 2). -/
def Obligations.FetchWordRunsTheDecodedOperation : Prop :=
  ∀ (s : State) (a0 a1 a2 op : Byte) (i : Instr),
    decodeTableWord 32 (commandWord a0 a1 a2 op).toNat = some i →
    step (s.withFetchWord 32 (commandWord a0 a1 a2 op).toNat) =
      exec i { s with arg0 := a0, arg1 := a1, arg2 := a2, opcode := op }

/-- O8. R52: a host read returns the byte at the address and changes no LRPE state. -/
def Obligations.HostReadHasNoSideEffect : Prop :=
  ∀ (s : State) (a : Addr) (rest : List HostEvent), s.host.pending = .lb a :: rest →
    ∃ t, step s = .next t ∧
      t = { s with host := { s.host with pending := rest, reads := s.host.reads ++ [busRead a s] } } ∧
      ∀ b : Addr, busRead b t = busRead b s

/-- O9. R21: what a host read of each address returns: each register at its address, byte `k` of a buffer at its base
plus `k`, and (R38) 0x00 at every reserved address. -/
def Obligations.RegisterMapReadsEveryPlace : Prop :=
  ∀ s : State,
    [0x000#9, 0x001#9, 0x002#9, 0x003#9, 0x004#9, 0x005#9, 0x006#9].map (busRead · s) =
      [s.arg0, s.arg1, s.arg2, s.opcode, s.status, s.errcode, s.crcRem] ∧
    [0x008#9, 0x009#9, 0x00A#9, 0x00B#9, 0x00C#9, 0x00D#9, 0x00E#9, 0x00F#9].map (busRead · s) =
      [s.tlm.fwMajor, s.tlm.fwMinor, s.tlm.fwPatch, s.tlm.tempFrac, s.tlm.tempInt, s.tlm.pumpDuty, s.tlm.pumpMode,
       s.tlm.pumpModeRaw] ∧
    [0x010#9, 0x011#9, 0x012#9, 0x014#9, 0x015#9, 0x016#9].map (busRead · s) =
      [s.tlm.fan1RpmLo, s.tlm.fan1RpmHi, s.tlm.fan1Duty, s.tlm.fan2RpmLo, s.tlm.fan2RpmHi, s.tlm.fan2Duty] ∧
    (∀ k, k < 64 → busRead (BitVec.ofNat 9 (0x040 + k)) s = s.mem.read (0x040 + k)) ∧
    (∀ k, k < 64 → busRead (BitVec.ofNat 9 (0x080 + k)) s = s.mem.read (0x080 + k)) ∧
    (∀ k, k < 60 → busRead (BitVec.ofNat 9 (0x0C0 + k)) s = s.mem.read (0x0C0 + k)) ∧
    (∀ k, k < 48 → busRead (BitVec.ofNat 9 (0x100 + k)) s = s.mem.read (0x100 + k)) ∧
    ∀ a : Addr, (a = 0x007 ∨ a = 0x013 ∨ (0x017 ≤ a ∧ a ≤ 0x03F) ∨ (0x0FC ≤ a ∧ a ≤ 0x0FF) ∨ 0x130 ≤ a) →
      busRead a s = 0x00

/-- O10. R53: a host write to STATUS, ERRCODE, CRC_REM, a telemetry field register, TX_BUF or a reserved address is
ignored and changes no state. -/
def Obligations.IgnoredWritesChangeNothing : Prop :=
  ∀ (s : State) (a : Addr) (v : Byte) (rest : List HostEvent), s.host.pending = .sb a v :: rest →
    ((0x004 ≤ a ∧ a ≤ 0x07F) ∨ (0x0FC ≤ a ∧ a ≤ 0x0FF) ∨ 0x130 ≤ a) →
    step s = .next { s with host := { s.host with pending := rest } }

/-- O11. R53: a host write to ARG0 to ARG2, RX_BUF, PAYLOAD or LED stores the byte, and no other address and no draw
changes. Of the host's side only what it awaits and has learnt may change, and only by a byte of an awaited response
(R218): the last one teaches it the pump mode where RX_BUF is valid (R214). The form of that record is the model's
choice, log entry 19. -/
def Obligations.StoredWritesReachOneByte : Prop :=
  ∀ (s : State) (a : Addr) (v : Byte) (rest : List HostEvent), s.host.pending = .sb a v :: rest →
    (a ≤ 0x002 ∨ (0x080 ≤ a ∧ a ≤ 0x0FB) ∨ (0x100 ≤ a ∧ a ≤ 0x12F)) →
    ∃ t, step s = .next t ∧ busRead a t = v ∧ (∀ b : Addr, b ≠ a → busRead b t = busRead b s) ∧
      t.draws = s.draws ∧
      t.host = { s.host with pending := rest, awaited := t.host.awaited, learntMode := t.host.learntMode } ∧
      (a < 0x080 ∨ 0x0C0 ≤ a ∨ s.host.awaited = none →
        t.host.awaited = s.host.awaited ∧ t.host.learntMode = s.host.learntMode) ∧
      ∀ ks, 0x080 ≤ a → a < 0x0C0 → s.host.awaited = some ks →
        if ∀ k ∈ ks, 0x080 + k = a.toNat then
          t.host.awaited = none ∧
          (rxMatches t → t.host.learntMode =
            some (if t.byte .rx 24 = 0x00 then 0x00 else if t.byte .rx 24 = 0x02 then 0x02 else 0x01)) ∧
          (¬ rxMatches t → t.host.learntMode = s.host.learntMode)
        else t.host.awaited = some (ks.filter fun k => 0x080 + k ≠ a.toNat) ∧ t.host.learntMode = s.host.learntMode

/-- O12. R210: the reset input sets every address to 0x00, draws no nonce and issues no operation; the host keeps its
own state (R41), but for the bytes of an awaited response, which must all be written again. That the draw count is not
rewound is the model's choice, log entry 4, and so is the record of what is awaited, log entry 19. -/
def Obligations.ResetInputClearsEveryAddress : Prop :=
  ∀ (s : State) (rest : List HostEvent), s.host.pending = .reset :: rest →
    ∃ t, step s = .next t ∧ (∀ a : Addr, busRead a t = 0x00) ∧ (∀ a : Addr, busRead a State.reset = 0x00) ∧
      t.draws = s.draws ∧
      t.host = { s.host with pending := rest, awaited := s.host.awaited.map fun _ => List.range 64 }

/-- O13. R213, R214, R221: handing over a frame records a snapshot of TX_BUF, starts the 5 ms settle time after a
lighting frame, starts the wait for a response after a telemetry request, and makes the learnt pump mode stale after a
cooling write; a fan write needs its pump mode learnt. With settle time left there is no move; waiting lets it run
down. That a hand-over is one step whose 64 reads are not recorded is the model's choice, log entry 8; so are the form
of the clock, log entry 9, and of what is awaited and learnt, log entry 19. -/
def Obligations.HandOverSnapshotsTxBuf : Prop :=
  ∀ (s : State) (rest : List HostEvent),
    (s.host.pending = .xmit :: rest → s.host.settle = 0 →
      (HoldsFanWrite s → s.host.learntMode = some (s.byte .tx 23)) →
      ∃ t f, step s = .next t ∧ f.length = 64 ∧ (∀ k, k < 64 → f.getD k 0 = busRead (BitVec.ofNat 9 (0x040 + k)) s) ∧
        t = { s with host := { s.host with
          pending := rest, frames := s.host.frames ++ [f], settle := if s.status.getLsbD 3 then 5 else 0,
          awaited := t.host.awaited, learntMode := t.host.learntMode } } ∧
        (HoldsTlmRequest s → t.host.awaited = some (List.range 64) ∧ t.host.learntMode = s.host.learntMode) ∧
        (HoldsCooling s → t.host.awaited = none ∧ t.host.learntMode = none) ∧
        (¬ HoldsTlmRequest s → ¬ HoldsCooling s →
          t.host.awaited = s.host.awaited ∧ t.host.learntMode = s.host.learntMode)) ∧
    (s.host.pending = .xmit :: rest → 0 < s.host.settle → step s = .fault .settleTimeBroken) ∧
    ∀ n, s.host.pending = .waitMs n :: rest →
      step s = .next { s with host := { s.host with pending := rest, settle := s.host.settle - n } }

/-! ### Control and CRC operations -/

/-- O14. R92: NOP writes ERRCODE <- 0; STATUS and everything else are unchanged. -/
def Obligations.NopClearsOnlyErrcode : Prop :=
  (∀ a0 a1 a2 : Byte, decodeOp a0 a1 a2 0x00 = .ok .nop) ∧
  ∀ s : State, ∃ t, exec .nop s = .next t ∧ t.errcode = 0x00 ∧ t.crcRem = s.crcRem ∧ t.tlm = s.tlm ∧
    t.draws = s.draws ∧ KeepsAllBut [] [] s t

/-- O15. R93: CLR_ERR writes STICKY_ERR <- 0 and ERRCODE <- 0; the other flags and everything else are unchanged. -/
def Obligations.ClrErrClearsStickyErr : Prop :=
  (∀ a0 a1 a2 : Byte, decodeOp a0 a1 a2 0x0F = .ok .clrErr) ∧
  ∀ s : State, ∃ t, exec .clrErr s = .next t ∧ t.errcode = 0x00 ∧ t.flag .stickyErr = false ∧ t.crcRem = s.crcRem ∧
    t.tlm = s.tlm ∧ t.draws = s.draws ∧ KeepsAllBut [.stickyErr] [] s t

/-- O16. R104 to R106 with R100, R101: CRC_INIT, CRC_BYTE and CRC_ROUND write CRC_REM and ERRCODE and nothing else. The
round is stated over numbers: double, drop bit 8, XOR 0x07 where bit 7 was 1. -/
def Obligations.CrcOpsUpdateOnlyTheRemainder : Prop :=
  (∀ a0 a1 a2 : Byte, decodeOp a0 a1 a2 0x01 = .ok .crcInit ∧ decodeOp a0 a1 a2 0x02 = .ok (.crcByte a0) ∧
    decodeOp a0 a1 a2 0x03 = .ok .crcRound) ∧
  (∀ s : State, ∃ t, exec .crcInit s = .next t ∧ t.crcRem = 0x00 ∧ t.errcode = 0x00 ∧ t.tlm = s.tlm ∧
    t.draws = s.draws ∧ KeepsAllBut [] [] s t) ∧
  (∀ (s : State) (b : Byte), ∃ t, exec (.crcByte b) s = .next t ∧
    t.crcRem = crcRound (crcRound (crcRound (crcRound (crcRound (crcRound (crcRound (crcRound (s.crcRem ^^^ b)))))))) ∧
    t.errcode = 0x00 ∧ t.tlm = s.tlm ∧ t.draws = s.draws ∧ KeepsAllBut [] [] s t) ∧
  (∀ s : State, ∃ t, exec .crcRound s = .next t ∧
    t.crcRem.toNat = (s.crcRem.toNat * 2 % 256) ^^^ (if 128 ≤ s.crcRem.toNat then 7 else 0) ∧
    t.errcode = 0x00 ∧ t.tlm = s.tlm ∧ t.draws = s.draws ∧ KeepsAllBut [] [] s t)

/-- O17. R107: with SEL naming a buffer and START + LEN within it, CRC_BUF leaves the checksum of those bytes, started
from 0x00. -/
def Obligations.CrcBufSumsTheRange : Prop :=
  (∀ a0 a1 a2 : Byte, decodeOp a0 a1 a2 0x04 = .ok (.crcBuf a0 a1 a2)) ∧
  (∀ (s : State) (b : Buffer) (sel start len : Byte),
    [Buffer.tx, .rx, .payload, .led][sel.toNat]? = some b → start.toNat + len.toNat ≤ b.size →
    ∃ t, exec (.crcBuf sel start len) s = .next t ∧ t.crcRem = bufferSum s b start.toNat len.toNat ∧
      t.errcode = 0x00 ∧ t.tlm = s.tlm ∧ t.draws = s.draws ∧ KeepsAllBut [] [] s t) ∧
  ∀ (s : State) (sel start len : Byte), 4 ≤ sel.toNat ∨
      (∃ b, [Buffer.tx, .rx, .payload, .led][sel.toNat]? = some b ∧ b.size < start.toNat + len.toNat) →
    ∃ t, exec (.crcBuf sel start len) s = .next t ∧ t.errcode = (if 4 ≤ sel.toNat then 0x02 else 0x03) ∧
      t.flag .stickyErr = true ∧ t.crcRem = s.crcRem ∧ t.tlm = s.tlm ∧ t.draws = s.draws ∧
      KeepsAllBut [.stickyErr] [] s t

/-! ### The frame codec -/

/-- O18. R122 with R121, R78: FRAME_ENCODE builds a Form A frame without a feature (byte 62 is 0x00) and a Form B frame
with one, with the drawn nonce and PAYLOAD or zeros; a set reserved operand bit is BAD_ARG and nothing is built. -/
def Obligations.FrameEncodeBuildsBothForms : Prop :=
  (∀ a0 a1 a2 : Byte, decodeOp a0 a1 a2 0x10 = .ok (.frameEncode a0 (a1.getLsbD 7) (BitVec.ofNat 4 (a1.toNat / 8))
    (BitVec.ofNat 3 a1.toNat) (BitVec.ofNat 7 (a2.toNat / 2)) (a2.getLsbD 0))) ∧
  (∀ (s : State) (cmd : Byte) (feat : BitVec 3) (ple : Bool),
    ∃ t, exec (.frameEncode cmd false 0 feat 0 ple) s = .next t ∧
      FormA t (Config.nonce s.draws ||| cmd) (fun k => if ple then s.byte .payload k else 0x00) ∧
      t.flag .lightTx = decide (cmd = 0x04) ∧ t.errcode = 0x00 ∧ t.tlm = s.tlm ∧ t.draws = s.draws + 1 ∧
      KeepsAllBut [.lightTx] [.tx] s t) ∧
  (∀ (s : State) (cmd : Byte) (feat : BitVec 3) (ple : Bool),
    ∃ t, exec (.frameEncode cmd true 0 feat 0 ple) s = .next t ∧
      FormB t (Config.nonce s.draws ||| feat.setWidth 8) cmd (fun k => if ple then s.byte .payload k else 0x00) ∧
      t.flag .lightTx = false ∧ t.errcode = 0x00 ∧ t.tlm = s.tlm ∧ t.draws = s.draws + 1 ∧
      KeepsAllBut [.lightTx] [.tx] s t) ∧
  ∀ (s : State) (cmd : Byte) (fe : Bool) (r1 : BitVec 4) (feat : BitVec 3) (r2 : BitVec 7) (ple : Bool),
    r1 ≠ 0 ∨ r2 ≠ 0 → ∃ t, exec (.frameEncode cmd fe r1 feat r2 ple) s = .next t ∧ t.errcode = 0x02 ∧
      t.flag .stickyErr = true ∧ t.crcRem = s.crcRem ∧ t.tlm = s.tlm ∧ t.draws = s.draws ∧
      KeepsAllBut [.stickyErr] [] s t

/-- O19. R145's corner case: where PAYLOAD is all 0x00, FRAME_ENCODE with PL_EN = 1 and with PL_EN = 0 build the same
frame, given the same nonce. That both draw the same nonce from one state is the model's choice, log entry 3. -/
def Obligations.ZeroPayloadEqualsAbsentPayload : Prop :=
  ∀ (s : State) (cmd : Byte) (fe : Bool) (r1 : BitVec 4) (feat : BitVec 3) (r2 : BitVec 7),
    (∀ k, k < 60 → s.byte .payload k = 0x00) →
    exec (.frameEncode cmd fe r1 feat r2 true) s = exec (.frameEncode cmd fe r1 feat r2 false) s

/-- O20. R125, R124: FRAME_VALIDATE leaves the checksum of RX_BUF[1..63) in CRC_REM and the outcome in the CHK flags; it
ends normally exactly where RX_BUF[63] matches, else in CHECKSUM_MISMATCH with STICKY_ERR set. -/
def Obligations.FrameValidateReportsTheChecksum : Prop :=
  (∀ a0 a1 a2 : Byte, decodeOp a0 a1 a2 0x11 = .ok .frameValidate) ∧
  (∀ s : State, rxMatches s → ∃ t, exec .frameValidate s = .next t ∧ t.crcRem = bufferSum s .rx 1 62 ∧
    t.flag .chkValid = true ∧ t.flag .chkMismatch = false ∧ t.errcode = 0x00 ∧ t.tlm = s.tlm ∧ t.draws = s.draws ∧
    KeepsAllBut [.chkValid, .chkMismatch] [] s t) ∧
  ∀ s : State, ¬ rxMatches s → ∃ t, exec .frameValidate s = .next t ∧ t.crcRem = bufferSum s .rx 1 62 ∧
    t.flag .chkValid = false ∧ t.flag .chkMismatch = true ∧ t.errcode = 0x04 ∧ t.flag .stickyErr = true ∧
    t.tlm = s.tlm ∧ t.draws = s.draws ∧ KeepsAllBut [.chkValid, .chkMismatch, .stickyErr] [] s t

/-! ### Payload operations -/

/-- O21. R145: PL_CLEAR zeroes all sixty payload bytes. -/
def Obligations.PlClearZeroesPayload : Prop :=
  (∀ a0 a1 a2 : Byte, decodeOp a0 a1 a2 0x20 = .ok .plClear) ∧
  ∀ s : State, ∃ t, exec .plClear s = .next t ∧ PayloadIs t (fun _ => 0x00) ∧ t.errcode = 0x00 ∧
    t.crcRem = s.crcRem ∧ t.tlm = s.tlm ∧ t.draws = s.draws ∧ KeepsAllBut [] [.payload] s t

/-- O22. R146, R144: PL_LIGHT routes LED register triple i (red, green, blue) to payload offsets 3i+1 to 3i+3 in the
order green, red, blue; offsets 0 and 49 to 59 are 0x00. -/
def Obligations.PlLightRoutesTheLeds : Prop :=
  (∀ a0 a1 a2 : Byte, decodeOp a0 a1 a2 0x21 = .ok .plLight) ∧
  ∀ s : State, ∃ t, exec .plLight s = .next t ∧
    (∀ i, i < 16 → t.byte .payload (3 * i + 1) = s.byte .led (3 * i + 1) ∧
      t.byte .payload (3 * i + 2) = s.byte .led (3 * i) ∧ t.byte .payload (3 * i + 3) = s.byte .led (3 * i + 2)) ∧
    t.byte .payload 0 = 0x00 ∧ (∀ k, 49 ≤ k → k < 60 → t.byte .payload k = 0x00) ∧ t.errcode = 0x00 ∧
    t.crcRem = s.crcRem ∧ t.tlm = s.tlm ∧ t.draws = s.draws ∧ KeepsAllBut [] [.payload] s t

/-- O23. R147: PL_LIGHT_SOLID fills all sixteen slots with one color; the LED registers are not written. -/
def Obligations.PlLightSolidFillsEverySlot : Prop :=
  (∀ a0 a1 a2 : Byte, decodeOp a0 a1 a2 0x22 = .ok (.plLightSolid a0 a1 a2)) ∧
  ∀ (s : State) (r g b : Byte), ∃ t, exec (.plLightSolid r g b) s = .next t ∧
    PayloadIs t (lightByte fun _ => (r, g, b)) ∧ t.errcode = 0x00 ∧ t.crcRem = s.crcRem ∧ t.tlm = s.tlm ∧
    t.draws = s.draws ∧ KeepsAllBut [] [.payload] s t

/-- O24. R148, R140, R141, R143: PL_FAN writes the cooling layout with the pump mode and both fan channels; a pump mode
above 2 is BAD_ARG and writes no payload. -/
def Obligations.PlFanBuildsFanPayload : Prop :=
  (∀ a0 a1 a2 : Byte, decodeOp a0 a1 a2 0x23 = .ok (.plFan a0 a1)) ∧
  (∀ (s : State) (pct mode : Byte), mode.toNat ≤ 2 → ∃ t, exec (.plFan pct mode) s = .next t ∧
    PayloadIs t (fanByte (BitVec.ofNat 8 (dutyNumber pct)) mode) ∧ t.errcode = 0x00 ∧ t.crcRem = s.crcRem ∧
    t.tlm = s.tlm ∧ t.draws = s.draws ∧ KeepsAllBut [] [.payload] s t) ∧
  ∀ (s : State) (pct mode : Byte), 3 ≤ mode.toNat → ∃ t, exec (.plFan pct mode) s = .next t ∧ t.errcode = 0x02 ∧
    t.flag .stickyErr = true ∧ t.crcRem = s.crcRem ∧ t.tlm = s.tlm ∧ t.draws = s.draws ∧
    KeepsAllBut [.stickyErr] [] s t

/-- O25. R149, R140: PL_PUMP writes the cooling layout with the pump mode and no fan fields; a pump mode above 2 is
BAD_ARG and writes no payload. -/
def Obligations.PlPumpBuildsPumpPayload : Prop :=
  (∀ a0 a1 a2 : Byte, decodeOp a0 a1 a2 0x24 = .ok (.plPump a0)) ∧
  (∀ (s : State) (mode : Byte), mode.toNat ≤ 2 → ∃ t, exec (.plPump mode) s = .next t ∧
    PayloadIs t (coolingByte mode) ∧ t.errcode = 0x00 ∧ t.crcRem = s.crcRem ∧ t.tlm = s.tlm ∧ t.draws = s.draws ∧
    KeepsAllBut [] [.payload] s t) ∧
  ∀ (s : State) (mode : Byte), 3 ≤ mode.toNat → ∃ t, exec (.plPump mode) s = .next t ∧ t.errcode = 0x02 ∧
    t.flag .stickyErr = true ∧ t.crcRem = s.crcRem ∧ t.tlm = s.tlm ∧ t.draws = s.draws ∧
    KeepsAllBut [.stickyErr] [] s t

/-! ### Subsystem writes -/

/-- O26. R150: TX_LIGHT routes the LED registers into PAYLOAD and builds the lighting frame (Form A, code 0x04). -/
def Obligations.TxLightBuildsLightingFrame : Prop :=
  (∀ a0 a1 a2 : Byte, decodeOp a0 a1 a2 0x41 = .ok .txLight) ∧
  ∀ s : State, ∃ t, exec .txLight s = .next t ∧
    PayloadIs t (lightByte fun i => (s.byte .led (3 * i), s.byte .led (3 * i + 1), s.byte .led (3 * i + 2))) ∧
    FormA t (Config.nonce s.draws ||| 0x04) (fun k => t.byte .payload k) ∧ t.flag .lightTx = true ∧
    t.errcode = 0x00 ∧ t.tlm = s.tlm ∧ t.draws = s.draws + 1 ∧ KeepsAllBut [.lightTx] [.tx, .payload] s t

/-- O27. R151: TX_LIGHT_SOLID builds the lighting frame of one color; LED is unchanged. -/
def Obligations.TxLightSolidBuildsLightingFrame : Prop :=
  (∀ a0 a1 a2 : Byte, decodeOp a0 a1 a2 0x42 = .ok (.txLightSolid a0 a1 a2)) ∧
  ∀ (s : State) (r g b : Byte), ∃ t, exec (.txLightSolid r g b) s = .next t ∧
    PayloadIs t (lightByte fun _ => (r, g, b)) ∧
    FormA t (Config.nonce s.draws ||| 0x04) (fun k => t.byte .payload k) ∧ t.flag .lightTx = true ∧
    t.errcode = 0x00 ∧ t.tlm = s.tlm ∧ t.draws = s.draws + 1 ∧ KeepsAllBut [.lightTx] [.tx, .payload] s t

/-- O28. R152: TX_FAN builds the fan payload and the cooling frame (Form B, feature 0b000, command 0x14); a pump mode
above 2 is BAD_ARG and writes neither. -/
def Obligations.TxFanBuildsCoolingFrame : Prop :=
  (∀ a0 a1 a2 : Byte, decodeOp a0 a1 a2 0x43 = .ok (.txFan a0 a1)) ∧
  (∀ (s : State) (pct mode : Byte), mode.toNat ≤ 2 → ∃ t, exec (.txFan pct mode) s = .next t ∧
    PayloadIs t (fanByte (BitVec.ofNat 8 (dutyNumber pct)) mode) ∧
    FormB t (Config.nonce s.draws) 0x14 (fun k => t.byte .payload k) ∧ t.flag .lightTx = false ∧
    t.errcode = 0x00 ∧ t.tlm = s.tlm ∧ t.draws = s.draws + 1 ∧ KeepsAllBut [.lightTx] [.tx, .payload] s t) ∧
  ∀ (s : State) (pct mode : Byte), 3 ≤ mode.toNat → ∃ t, exec (.txFan pct mode) s = .next t ∧ t.errcode = 0x02 ∧
    t.flag .stickyErr = true ∧ t.crcRem = s.crcRem ∧ t.tlm = s.tlm ∧ t.draws = s.draws ∧
    KeepsAllBut [.stickyErr] [] s t

/-- O29. R153: TX_FAN_KEEP on a valid RX_BUF builds the fan frame with the pump mode RX_BUF[24] decodes to; on a
mismatch it raises CHECKSUM_MISMATCH and writes neither payload nor frame. -/
def Obligations.TxFanKeepReembedsThePumpMode : Prop :=
  (∀ a0 a1 a2 : Byte, decodeOp a0 a1 a2 0x44 = .ok (.txFanKeep a0)) ∧
  (∀ (s : State) (pct : Byte), rxMatches s → ∃ t, exec (.txFanKeep pct) s = .next t ∧
    PayloadIs t (fanByte (BitVec.ofNat 8 (dutyNumber pct))
      (if s.byte .rx 24 = 0x00 then 0x00 else if s.byte .rx 24 = 0x02 then 0x02 else 0x01)) ∧
    FormB t (Config.nonce s.draws) 0x14 (fun k => t.byte .payload k) ∧ t.flag .lightTx = false ∧
    t.flag .chkValid = true ∧ t.flag .chkMismatch = false ∧ t.errcode = 0x00 ∧ t.tlm = s.tlm ∧
    t.draws = s.draws + 1 ∧ KeepsAllBut [.lightTx, .chkValid, .chkMismatch] [.tx, .payload] s t) ∧
  ∀ (s : State) (pct : Byte), ¬ rxMatches s → ∃ t, exec (.txFanKeep pct) s = .next t ∧
    t.crcRem = bufferSum s .rx 1 62 ∧ t.flag .chkValid = false ∧ t.flag .chkMismatch = true ∧ t.errcode = 0x04 ∧
    t.flag .stickyErr = true ∧ t.tlm = s.tlm ∧ t.draws = s.draws ∧
    KeepsAllBut [.chkValid, .chkMismatch, .stickyErr] [] s t

/-- O30. R154: TX_PUMP builds the pump payload and the cooling frame; a pump mode above 2 is BAD_ARG and writes
neither. -/
def Obligations.TxPumpBuildsCoolingFrame : Prop :=
  (∀ a0 a1 a2 : Byte, decodeOp a0 a1 a2 0x45 = .ok (.txPump a0)) ∧
  (∀ (s : State) (mode : Byte), mode.toNat ≤ 2 → ∃ t, exec (.txPump mode) s = .next t ∧
    PayloadIs t (coolingByte mode) ∧ FormB t (Config.nonce s.draws) 0x14 (fun k => t.byte .payload k) ∧
    t.flag .lightTx = false ∧ t.errcode = 0x00 ∧ t.tlm = s.tlm ∧ t.draws = s.draws + 1 ∧
    KeepsAllBut [.lightTx] [.tx, .payload] s t) ∧
  ∀ (s : State) (mode : Byte), 3 ≤ mode.toNat → ∃ t, exec (.txPump mode) s = .next t ∧ t.errcode = 0x02 ∧
    t.flag .stickyErr = true ∧ t.crcRem = s.crcRem ∧ t.tlm = s.tlm ∧ t.draws = s.draws ∧
    KeepsAllBut [.stickyErr] [] s t

/-! ### Telemetry -/

/-- O31. R170, R127: a telemetry request is 3F FF, then 61 bytes 0x00, then 0x87, whatever the draw, and PAYLOAD is
neither read nor written. -/
def Obligations.TelemetryRequestIsDeterministic : Prop :=
  (∀ a0 a1 a2 : Byte, decodeOp a0 a1 a2 0x40 = .ok .txTlmReq) ∧
  ∀ s : State, ∃ t, exec .txTlmReq s = .next t ∧ t.byte .tx 0 = 0x3F ∧ t.byte .tx 1 = 0xFF ∧
    (∀ k, 2 ≤ k → k < 63 → t.byte .tx k = 0x00) ∧ t.byte .tx 63 = 0x87 ∧ t.crcRem = 0x87 ∧
    t.flag .lightTx = false ∧ t.errcode = 0x00 ∧ t.tlm = s.tlm ∧ t.draws = s.draws + 1 ∧
    KeepsAllBut [.lightTx] [.tx] s t

/-- O32. R173, R171: TLM_DECODE on a valid RX_BUF extracts the fourteen fields and sets TLM_VALID; on a mismatch it
clears every field register and TLM_VALID and raises CHECKSUM_MISMATCH. -/
def Obligations.TlmDecodeExtractsOrClears : Prop :=
  (∀ a0 a1 a2 : Byte, decodeOp a0 a1 a2 0x30 = .ok .tlmDecode) ∧
  (∀ s : State, rxMatches s → ∃ t, exec .tlmDecode s = .next t ∧
    t.tlm.fwMajor.toNat = (s.byte .rx 2).toNat / 16 ∧ t.tlm.fwMinor.toNat = (s.byte .rx 2).toNat % 16 ∧
    t.tlm.fwPatch = s.byte .rx 3 ∧ t.tlm.tempFrac = s.byte .rx 7 ∧ t.tlm.tempInt = s.byte .rx 8 ∧
    t.tlm.pumpDuty = s.byte .rx 28 ∧
    t.tlm.pumpMode = (if s.byte .rx 24 = 0x00 then 0x00 else if s.byte .rx 24 = 0x02 then 0x02 else 0x01) ∧
    t.tlm.pumpModeRaw = s.byte .rx 24 ∧ t.tlm.fan1RpmLo = s.byte .rx 15 ∧ t.tlm.fan1RpmHi = s.byte .rx 16 ∧
    t.tlm.fan1Duty = s.byte .rx 14 ∧ t.tlm.fan2RpmLo = s.byte .rx 22 ∧ t.tlm.fan2RpmHi = s.byte .rx 23 ∧
    t.tlm.fan2Duty = s.byte .rx 21 ∧ t.flag .tlmValid = true ∧ t.flag .chkValid = true ∧
    t.flag .chkMismatch = false ∧ t.crcRem = bufferSum s .rx 1 62 ∧ t.errcode = 0x00 ∧ t.draws = s.draws ∧
    KeepsAllBut [.chkValid, .chkMismatch, .tlmValid] [] s t) ∧
  ∀ s : State, ¬ rxMatches s → ∃ t, exec .tlmDecode s = .next t ∧
    (∀ a : Addr, 0x008 ≤ a → a ≤ 0x016 → busRead a t = 0x00) ∧ t.flag .tlmValid = false ∧ t.flag .chkValid = false ∧
    t.flag .chkMismatch = true ∧ t.crcRem = bufferSum s .rx 1 62 ∧ t.errcode = 0x04 ∧ t.flag .stickyErr = true ∧
    t.draws = s.draws ∧ KeepsAllBut [.chkValid, .chkMismatch, .tlmValid, .stickyErr] [] s t

/-! ### Rules over every operation -/

/-- O33. R192, R193, R72 to R74: an operation with illegal operands ends in BAD_ARG or BAD_RANGE and changes nothing but
ERRCODE and STICKY_ERR; it draws no nonce. -/
def Obligations.IllegalOperandsOnlyRecordTheError : Prop :=
  ∀ (i : Instr) (s : State), i.wellFormed = false → ∃ t, exec i s = .next t ∧
    t.errcode = (operandError i).code ∧ t.flag .stickyErr = true ∧ t.crcRem = s.crcRem ∧ t.tlm = s.tlm ∧
    t.draws = s.draws ∧ KeepsAllBut [.stickyErr] [] s t

/-- O34. R190: an operation with legal operands ends normally, unless it validates an RX_BUF that does not match, which
is CHECKSUM_MISMATCH. -/
def Obligations.LegalOperandsEndNormallyOrInMismatch : Prop :=
  ∀ (i : Instr) (s : State), i.wellFormed = true → ∃ t, exec i s = .next t ∧
    t.errcode = if validates i = true ∧ ¬ rxMatches s then 0x04 else 0x00

/-- O35. R212: every operation is defined on every state: no fault, no refusal. -/
def Obligations.EveryOperationCompletes : Prop := ∀ (i : Instr) (s : State), Safe (exec i s)

/-- O36. R22, R23, R35, R37, R5: no operation writes ARG0 to ARG2, OPCODE, RX_BUF, LED or the host's side. -/
def Obligations.NoOperationWritesHostOwnedState : Prop :=
  ∀ (i : Instr) (s t : State), exec i s = .next t →
    t.arg0 = s.arg0 ∧ t.arg1 = s.arg1 ∧ t.arg2 = s.arg2 ∧ t.opcode = s.opcode ∧ t.host = s.host ∧
    (∀ k, k < 64 → t.byte .rx k = s.byte .rx k) ∧ (∀ k, k < 48 → t.byte .led k = s.byte .led k)

/-- O37. R27, R33: TLM_DECODE alone writes the telemetry field registers and TLM_VALID. -/
def Obligations.OnlyTlmDecodeWritesTheFields : Prop :=
  ∀ (i : Instr) (s t : State), i ≠ .tlmDecode → exec i s = .next t →
    t.tlm = s.tlm ∧ t.flag .tlmValid = s.flag .tlmValid

/-- O38. R25, R26: only FRAME_VALIDATE, TLM_DECODE and TX_FAN_KEEP write the CHK flags, and each leaves CHK_VALID <- ok
and CHK_MISMATCH <- not ok. -/
def Obligations.OnlyValidationWritesTheCheckFlags : Prop :=
  ∀ (i : Instr) (s t : State), exec i s = .next t →
    if validates i then t.flag .chkValid = decide (rxMatches s) ∧ t.flag .chkMismatch = !decide (rxMatches s)
    else t.flag .chkValid = s.flag .chkValid ∧ t.flag .chkMismatch = s.flag .chkMismatch

/-- O39. R28, R34, R120: TX_BUF, LIGHT_TX and the draw count change only in a frame-encoding operation that ends without
error, which draws exactly one nonce. -/
def Obligations.OnlyFrameOpsWriteTxBuf : Prop :=
  ∀ (i : Instr) (s t : State), exec i s = .next t →
    if buildsFrame i = true ∧ t.errcode = 0x00 then t.draws = s.draws + 1
    else (∀ k, k < 64 → t.byte .tx k = s.byte .tx k) ∧ t.flag .lightTx = s.flag .lightTx ∧ t.draws = s.draws

/-- O40. R36: PAYLOAD changes only in a payload or subsystem-write operation that ends without error. -/
def Obligations.OnlyPayloadOpsWritePayload : Prop :=
  ∀ (i : Instr) (s t : State), exec i s = .next t → (writesPayload i = false ∨ t.errcode ≠ 0x00) →
    ∀ k, k < 60 → t.byte .payload k = s.byte .payload k

/-- O41. R32, R215, R192: CRC_REM changes only in a CRC, validation or frame operation, and never on BAD_ARG or
BAD_RANGE; a validation that fails leaves the checksum it computed. -/
def Obligations.OnlyCrcAndFrameOpsWriteTheRemainder : Prop :=
  ∀ (i : Instr) (s t : State), exec i s = .next t →
    ((writesCrc i = false ∨ i.wellFormed = false) → t.crcRem = s.crcRem) ∧
    (t.errcode = 0x04 → validates i = true ∧ t.crcRem = bufferSum s .rx 1 62 ∧ t.crcRem ≠ s.byte .rx 63)

/-- O42. R29, R91: STICKY_ERR is set by every nonzero code and cleared by CLR_ERR alone. -/
def Obligations.StickyErrRecordsEveryError : Prop :=
  ∀ (i : Instr) (s t : State), exec i s = .next t →
    t.flag .stickyErr = (if i = .clrErr then false else s.flag .stickyErr || decide (t.errcode ≠ 0x00))

/-- O43. Derived from R121, R123 as R126 is: every frame a frame-encoding operation builds is valid and marked, CRC_REM
holds its checksum, and a copy of it in RX_BUF passes FRAME_VALIDATE. -/
def Obligations.BuiltFramesAreValid : Prop :=
  ∀ (i : Instr) (s t : State), buildsFrame i = true → exec i s = .next t → t.errcode = 0x00 →
    bufferSum t .tx 1 62 = t.byte .tx 63 ∧ t.byte .tx 0 = 0x3F ∧ t.crcRem = t.byte .tx 63 ∧
    ∀ u : State, (∀ k, k < 64 → u.byte .rx k = t.byte .tx k) →
      ∃ v, exec .frameValidate u = .next v ∧ v.errcode = 0x00 ∧ v.flag .chkValid = true

/-- O44. About the nonce alone (R120, R127): a nonce is in NONCE_SET_MODEL with bits [2:0] = 0, so nonce OR feature is
their sum and gives both back, nonce OR 0x04 is nonce + 4, and nonce OR 0xFF is 0xFF. That these are what byte 1 of a
frame holds stands in O18. The form of the draw is the model's choice, log entry 3. -/
def Obligations.NonceAndFeatureComeApart : Prop :=
  ∀ (k : Nat) (feat : BitVec 3),
    Config.nonce k ∈ Config.nonceSetModel ∧ Config.nonce k &&& 0x07 = 0x00 ∧
    (Config.nonce k ||| feat.setWidth 8).toNat = (Config.nonce k).toNat + feat.toNat ∧
    ((Config.nonce k ||| feat.setWidth 8) >>> 3) <<< 3 = Config.nonce k ∧
    (Config.nonce k ||| feat.setWidth 8).setWidth 3 = feat ∧
    (Config.nonce k ||| 0x04).toNat = (Config.nonce k).toNat + 4 ∧ Config.nonce k ||| 0xFF = 0xFF

/-- O45. R153: TX_FAN_KEEP neither reads nor needs the telemetry registers or TLM_VALID: with other field registers and
another TLM_VALID it does the same, with the same draw. That both runs draw the same nonce from equal draw counts is the
model's choice, log entry 3. -/
def Obligations.TxFanKeepIgnoresTheFieldRegisters : Prop :=
  ∀ (s : State) (pct : Byte) (τ : Telemetry) (b : Bool), ∃ t,
    exec (.txFanKeep pct) s = .next t ∧
    exec (.txFanKeep pct) ((s.putTlm τ).putFlag .tlmValid b) = .next ((t.putTlm τ).putFlag .tlmValid b)

/-! ### Invariants -/

/-- O46. The buffers' memory stays canonical and lists buffer addresses only, in every step of the machine (R20, R21).
That memory is a list in one canonical form is the model's choice, log entry 12. -/
def Obligations.StepKeepsMemoryForm : Prop :=
  ∀ s t : State, s.MemoryForm → step s = .next t → t.MemoryForm

/-- O47. R30, R31, R25, R29: STATUS and ERRCODE keep their form in every step. -/
def Obligations.StepKeepsStatusForm : Prop :=
  ∀ s t : State, s.StatusForm → step s = .next t → t.StatusForm

/-- O48. R27, R178: the telemetry field registers keep their form in every step. -/
def Obligations.StepKeepsFieldsForm : Prop :=
  ∀ s t : State, s.FieldsForm → step s = .next t → t.FieldsForm

/-- O49. R126, R34, R28: TX_BUF and every frame handed to the transport stay valid frames in every step. The clauses on
the settle time and on what is awaited and learnt are about the model's own host side, log entries 9 and 19. -/
def Obligations.StepKeepsEveryFrameValid : Prop :=
  ∀ s t : State, s.FramesForm → step s = .next t → t.FramesForm

/-- O50. The invariants hold after reset (R210, R211). That no frame has been sent, no settle time is left and nothing is
awaited or learnt is the model's choice, log entry 7; the canonical form of memory is log entry 12. -/
def Obligations.InvariantsHoldAtReset : Prop :=
  State.reset.MemoryForm ∧ State.reset.StatusForm ∧ State.reset.FieldsForm ∧ State.reset.FramesForm

/-! ### The checksum -/

/-- O51. R108 (a), (b), (c): zeros sum to 0x00, leading zeros change nothing, and a sequence with its checksum appended
sums to 0x00 and to nothing else. -/
def Obligations.AppendedChecksumGivesZero : Prop :=
  (∀ n : Nat, crc8 (List.replicate n 0x00) = 0x00) ∧
  (∀ bs : List Byte, crc8 (0x00 :: bs) = crc8 bs) ∧
  ∀ (bs : List Byte) (c : Byte), crc8 (bs ++ [c]) = 0x00 ↔ c = crc8 bs

/-- O52. R108 (d): the checksum is linear: crc8(B xor C) = crc8(B) xor crc8(C) for sequences of equal length. -/
def Obligations.ChecksumIsLinear : Prop :=
  ∀ bs cs : List Byte, bs.length = cs.length →
    crc8 (List.zipWith (· ^^^ ·) bs cs) = crc8 bs ^^^ crc8 cs

/-- O53. R108 (e): a round and a byte step are bijections, so changing one byte of a sequence changes its checksum, and a
valid frame with any one byte of bytes 1 to 63 changed is invalid. -/
def Obligations.SingleByteChangeIsDetected : Prop :=
  (∀ r r' : Byte, crcRound r = crcRound r' → r = r') ∧
  (∀ b r r' : Byte, crcStep r b = crcStep r' b → r = r') ∧
  (∀ (bs cs : List Byte) (x y : Byte), x ≠ y → crc8 (bs ++ x :: cs) ≠ crc8 (bs ++ y :: cs)) ∧
  ∀ (f : List Byte) (k : Nat) (v : Byte), f.length = 64 → frameValid f = true → 1 ≤ k → k ≤ 63 → f.getD k 0 ≠ v →
    frameValid (f.set k v) = false

/-- O54. R102: the 256-entry table of 95_test_vectors.md computes the same checksum as the bit-serial engine on every
sequence. -/
def Obligations.TableChecksumEqualsBitSerial : Prop := ∀ bs : List Byte, crc8ByTable bs = crc8 bs

/-! ### Duty, offsets and measurements -/

/-- O55. R141, R182: the duty byte of a percentage up to 100 is the nearest byte with ties upward, so the percentage read
back is within half a byte step; above 100 it is 255; and it never falls as the percentage rises. -/
def Obligations.DutyByteIsNearest : Prop :=
  (∀ p : Byte, p.toNat ≤ 100 →
    (p.toNat : Rat) * 255 / 100 - 1 / 2 < ((dutyByte p).toNat : Rat) ∧
    ((dutyByte p).toNat : Rat) ≤ (p.toNat : Rat) * 255 / 100 + 1 / 2 ∧
    (p.toNat : Rat) - 50 / 255 ≤ dutyPercent (dutyByte p) ∧ dutyPercent (dutyByte p) ≤ (p.toNat : Rat) + 50 / 255) ∧
  (∀ p : Byte, 100 ≤ p.toNat → dutyByte p = 0xFF) ∧
  ∀ p q : Byte, p.toNat ≤ q.toNat → (dutyByte p).toNat ≤ (dutyByte q).toNat

/-- O56. R143: the fan mode offsets keep the fan fields inside the payload, off the header, the pump mode, the marker and
each other. -/
def Obligations.FanOffsetsMeetTheirConstraints : Prop :=
  8 ≤ Config.fanModeOfs1 ∧ Config.fanModeOfs1 + 5 ≤ 59 ∧ 8 ≤ Config.fanModeOfs2 ∧ Config.fanModeOfs2 + 5 ≤ 59 ∧
  [Config.fanModeOfs1, Config.fanModeOfs1 + 5, Config.fanModeOfs2, Config.fanModeOfs2 + 5, 20, 26].Nodup

/-- O57. R173 to R180: after a TLM_DECODE of a valid RX_BUF the report lists the eight measurements in the order of R171,
each with the value of its formula over the frame's bytes. -/
def Obligations.MeasurementsFollowTheFrame : Prop :=
  ∀ s : State, rxMatches s → ∃ t txt m, exec .tlmDecode s = .next t ∧
    measurements t =
      [.firmware txt,
       .liquidTemp (((s.byte .rx 8).toNat : Rat) + ((s.byte .rx 7).toNat : Rat) / 255),
       .pumpDuty (((s.byte .rx 28).toNat : Rat) / 255 * 100),
       .pumpMode (some m),
       .fan1Rpm ((s.byte .rx 16).toNat * 256 + (s.byte .rx 15).toNat),
       .fan1Duty (((s.byte .rx 14).toNat : Rat) / 255 * 100),
       .fan2Rpm ((s.byte .rx 23).toNat * 256 + (s.byte .rx 22).toNat),
       .fan2Duty (((s.byte .rx 21).toNat : Rat) / 255 * 100)] ∧
    txt = Nat.toDigits 10 ((s.byte .rx 2).toNat / 16) ++ '.' :: Nat.toDigits 10 ((s.byte .rx 2).toNat % 16) ++
      '.' :: Nat.toDigits 10 (s.byte .rx 3).toNat ∧
    m = (if s.byte .rx 24 = 0x00 then .quiet else if s.byte .rx 24 = 0x02 then .extreme else .balanced)

/-- O58. R181: the hundredth shown for a temperature or a pump duty is strictly nearer the exact value than any other. -/
def Obligations.ShownHundredthIsUniquelyNearest : Prop :=
  (∀ (t : Telemetry) (z : Int), z ≠ hundredths (liquidTemp t) →
    |liquidTemp t * 100 - (hundredths (liquidTemp t) : Rat)| < |liquidTemp t * 100 - (z : Rat)|) ∧
  ∀ (b : Byte) (z : Int), z ≠ hundredths (dutyPercent b) →
    |dutyPercent b * 100 - (hundredths (dutyPercent b) : Rat)| < |dutyPercent b * 100 - (z : Rat)|

/-! ### The host's statement for an operation -/

/-- O59. R80, R70: the four writes of `MNEMONIC a0, a1, a2`, operands first, perform that operation in the fourth
step. -/
def Obligations.IssueSequenceRunsTheOperation : Prop :=
  ∀ (s : State) (i : Instr) (rest : List HostEvent), s.host.pending = issueInstr i ++ rest →
    ∃ s₁ s₂ s₃, step s = .next s₁ ∧ step s₁ = .next s₂ ∧ step s₂ = .next s₃ ∧
      step s₃ = exec i { s with
        arg0 := (operandsOf i).1
        arg1 := (operandsOf i).2.1
        arg2 := (operandsOf i).2.2
        opcode := opcodeOf i
        host := { s.host with pending := rest } }

/-! ### The fan-write duty -/

/-- O60. R214, R222: handing over a fan write whose pump mode is not the one learnt has no move. TX_FAN and TX_FAN_KEEP
build a fan write with the pump mode at frame byte 23; TX_PUMP builds a cooling write that is no fan write; TX_TLM_REQ
builds the telemetry request; a lighting frame is neither. How a fan write is told by its bytes, and what counts as
learnt, is the model's choice, log entry 19. -/
def Obligations.FanWriteNeedsTheCurrentPumpMode : Prop :=
  (∀ (s : State) (rest : List HostEvent), s.host.pending = .xmit :: rest → s.host.settle = 0 → HoldsFanWrite s →
    s.host.learntMode ≠ some (s.byte .tx 23) → step s = .fault .stalePumpMode) ∧
  (∀ (s : State) (pct mode : Byte), mode.toNat ≤ 2 →
    ∃ t, exec (.txFan pct mode) s = .next t ∧ HoldsFanWrite t ∧ t.byte .tx 23 = mode) ∧
  (∀ (s : State) (pct : Byte), rxMatches s → ∃ t, exec (.txFanKeep pct) s = .next t ∧ HoldsFanWrite t ∧
    t.byte .tx 23 = (if s.byte .rx 24 = 0x00 then 0x00 else if s.byte .rx 24 = 0x02 then 0x02 else 0x01)) ∧
  (∀ (s : State) (mode : Byte), mode.toNat ≤ 2 →
    ∃ t, exec (.txPump mode) s = .next t ∧ HoldsCooling t ∧ ¬ HoldsFanWrite t) ∧
  (∀ s : State, ∃ t, exec .txTlmReq s = .next t ∧ HoldsTlmRequest t ∧ ¬ HoldsCooling t) ∧
  (∀ s : State, ∃ t, exec .txLight s = .next t ∧ ¬ HoldsTlmRequest t ∧ ¬ HoldsCooling t) ∧
  ∀ (s : State) (r g b : Byte), ∃ t, exec (.txLightSolid r g b) s = .next t ∧ ¬ HoldsTlmRequest t ∧ ¬ HoldsCooling t
end

