-- ==== Sys2Proof/Laws/Checksum.lean ====
section
/-! SUPPORT. Small laws of the CRC-8 functions (rules R100 to R102). -/

namespace Sys2Proof.Machine

@[simp] theorem crc8_nil : crc8 [] = 0x00 := rfl

/-- A checksum continues where an earlier one stopped (R102). -/
theorem crc8_append (bs cs : List Byte) : crc8 (bs ++ cs) = cs.foldl crcStep (crc8 bs) := by
  simp [crc8, List.foldl_append]

theorem crc8_concat (bs : List Byte) (b : Byte) : crc8 (bs ++ [b]) = crcStep (crc8 bs) b := by
  simp [crc8_append]

theorem crcRounds_add (j k : Nat) (r : Byte) : crcRounds (j + k) r = crcRounds k (crcRounds j r) := by
  induction j generalizing r with
  | zero => simp [crcRounds]
  | succ j ih => rw [Nat.succ_add]; exact ih (crcRound r)

/-- 0x00 is a fixed point of a round (R106). -/
@[simp] theorem crcRound_zero : crcRound 0#8 = 0#8 := by decide

/-- A round is additive: it is a linear map over the two-element field (R108 (d)). -/
theorem crcRound_xor (a b : Byte) : crcRound (a ^^^ b) = crcRound a ^^^ crcRound b := by
  have hs : (a ^^^ b) <<< 1 = (a <<< 1) ^^^ (b <<< 1) := by
    ext j hj
    simp only [← BitVec.getLsbD_eq_getElem, BitVec.getLsbD_shiftLeft, BitVec.getLsbD_xor]
    by_cases h : j < 1 <;> simp [hj, h]
  simp only [crcRound, BitVec.getLsbD_xor, hs]
  generalize a <<< 1 = x, b <<< 1 = y, Config.crcPoly = p
  cases a.getLsbD 7 <;> cases b.getLsbD 7 <;> simp only [Bool.xor_false, Bool.xor_true, Bool.not_true,
    Bool.not_false, Bool.false_eq_true, if_true, if_false] <;> ext j hj <;> simp only [BitVec.getElem_xor] <;>
    cases x[j] <;> cases y[j] <;> cases p[j] <;> rfl

theorem crcRounds_xor (k : Nat) (a b : Byte) : crcRounds k (a ^^^ b) = crcRounds k a ^^^ crcRounds k b := by
  induction k generalizing a b with
  | zero => rfl
  | succ k ih => simp only [crcRounds, crcRound_xor, ih]

@[simp] theorem crcRounds_zero (k : Nat) : crcRounds k 0#8 = 0#8 := by
  induction k with
  | zero => rfl
  | succ k ih => simp [crcRounds, ih]

end Sys2Proof.Machine
end

