-- ==== Sys2Proof/Laws/Decode.lean ====
section
/-! SUPPORT. The command word taken apart: its four bytes, and FRAME_ENCODE's operand fields (rules R70, R72). -/

namespace Sys2Proof

/-- The four bytes of a command word, read back from its number (R70). -/
theorem wordBytes_commandWord (a0 a1 a2 op : Byte) :
    wordBytes 32 (commandWord a0 a1 a2 op).toNat = [a0, a1, a2, op] := by
  have h : (commandWord a0 a1 a2 op).toNat % 2 ^ 32 = (commandWord a0 a1 a2 op).toNat :=
    Nat.mod_eq_of_lt (commandWord a0 a1 a2 op).isLt
  have e : ∀ k, byteOfNat (commandWord a0 a1 a2 op).toNat k = (commandWord a0 a1 a2 op).extractLsb' (8 * k) 8 :=
    fun _ => rfl
  have b0 : (commandWord a0 a1 a2 op).extractLsb' (8 * 0) 8 = a0 := by
    ext j hj
    simp only [commandWord, BitVec.getElem_extractLsb', BitVec.getLsbD_append]
    rw [if_pos (by omega), ← BitVec.getLsbD_eq_getElem]; congr 1; omega
  have b1 : (commandWord a0 a1 a2 op).extractLsb' (8 * 1) 8 = a1 := by
    ext j hj
    simp only [commandWord, BitVec.getElem_extractLsb', BitVec.getLsbD_append]
    rw [if_neg (by omega), if_pos (by omega), ← BitVec.getLsbD_eq_getElem]; congr 1; omega
  have b2 : (commandWord a0 a1 a2 op).extractLsb' (8 * 2) 8 = a2 := by
    ext j hj
    simp only [commandWord, BitVec.getElem_extractLsb', BitVec.getLsbD_append]
    rw [if_neg (by omega), if_neg (by omega), if_pos (by omega), ← BitVec.getLsbD_eq_getElem]; congr 1; omega
  have b3 : (commandWord a0 a1 a2 op).extractLsb' (8 * 3) 8 = op := by
    ext j hj
    simp only [commandWord, BitVec.getElem_extractLsb', BitVec.getLsbD_append]
    rw [if_neg (by omega), if_neg (by omega), if_neg (by omega), ← BitVec.getLsbD_eq_getElem]; congr 1; omega
  simp only [wordBytes, h, e, b0, b1, b2, b3]

/-- FRAME_ENCODE's fields come back from its operand bytes (R72). -/
theorem decodeFrameEncode_fields (cmd : Byte) (featEn : Bool) (rsvA1 : BitVec 4) (feat : BitVec 3)
    (rsvA2 : BitVec 7) (plEn : Bool) :
    decodeFrameEncode cmd (BitVec.ofBool featEn ++ rsvA1 ++ feat) (rsvA2 ++ BitVec.ofBool plEn) =
      .frameEncode cmd featEn rsvA1 feat rsvA2 plEn := by
  have h1 : (BitVec.ofBool featEn ++ rsvA1 ++ feat : Byte).getLsbD 7 = featEn := by
    simp only [BitVec.getLsbD_append]; cases featEn <;> rfl
  have h2 : (BitVec.ofBool featEn ++ rsvA1 ++ feat : Byte).extractLsb' 3 4 = rsvA1 := by
    ext j hj
    simp only [BitVec.getElem_extractLsb', BitVec.getLsbD_append]
    rw [if_neg (by omega), if_pos (by omega), ← BitVec.getLsbD_eq_getElem]; congr 1; omega
  have h3 : (BitVec.ofBool featEn ++ rsvA1 ++ feat : Byte).extractLsb' 0 3 = feat := by
    ext j hj
    simp only [BitVec.getElem_extractLsb', BitVec.getLsbD_append]
    rw [if_pos (by omega), ← BitVec.getLsbD_eq_getElem]; congr 1; omega
  have h4 : (rsvA2 ++ BitVec.ofBool plEn : Byte).extractLsb' 1 7 = rsvA2 := by
    ext j hj
    simp only [BitVec.getElem_extractLsb', BitVec.getLsbD_append]
    rw [if_neg (by omega), ← BitVec.getLsbD_eq_getElem]; congr 1; omega
  have h5 : (rsvA2 ++ BitVec.ofBool plEn : Byte).getLsbD 0 = plEn := by
    simp only [BitVec.getLsbD_append]; cases plEn <;> rfl
  simp only [decodeFrameEncode, h1, h2, h3, h4, h5]

theorem opcode_encodeWord (i : Instr) : (encodeWord i).extractLsb' 24 8 = opcodeOf i := by
  ext j hj
  simp only [encodeWord, commandWord, BitVec.getElem_extractLsb', BitVec.getLsbD_append]
  rw [if_neg (by omega), if_neg (by omega), if_neg (by omega), ← BitVec.getLsbD_eq_getElem]; congr 1; omega

theorem decodeTableWord_encodeWord (i : Instr) :
    decodeTableWord 32 (encodeWord i).toNat =
      (decodeOp (operandsOf i).1 (operandsOf i).2.1 (operandsOf i).2.2 (opcodeOf i)).toOption := by
  simp only [decodeTableWord, encodeWord, wordBytes_commandWord, decode]
  cases decodeOp (operandsOf i).1 (operandsOf i).2.1 (operandsOf i).2.2 (opcodeOf i) <;> rfl

end Sys2Proof
end

