-- ==== Sys2Proof/Laws/State.lean ====
section
/-! SUPPORT. Beside State: for each named update, what each field holds after it. -/

namespace Sys2Proof.Machine

variable (s : State)

/-! ### `store` -/

@[simp] theorem State.store_arg0 (b : Buffer) (bs : List Byte) : (s.store b bs).arg0 = s.arg0 := rfl
@[simp] theorem State.store_arg1 (b : Buffer) (bs : List Byte) : (s.store b bs).arg1 = s.arg1 := rfl
@[simp] theorem State.store_arg2 (b : Buffer) (bs : List Byte) : (s.store b bs).arg2 = s.arg2 := rfl
@[simp] theorem State.store_opcode (b : Buffer) (bs : List Byte) : (s.store b bs).opcode = s.opcode := rfl
@[simp] theorem State.store_status (b : Buffer) (bs : List Byte) : (s.store b bs).status = s.status := rfl
@[simp] theorem State.store_errcode (b : Buffer) (bs : List Byte) : (s.store b bs).errcode = s.errcode := rfl
@[simp] theorem State.store_crcRem (b : Buffer) (bs : List Byte) : (s.store b bs).crcRem = s.crcRem := rfl
@[simp] theorem State.store_tlm (b : Buffer) (bs : List Byte) : (s.store b bs).tlm = s.tlm := rfl
@[simp] theorem State.store_mem (b : Buffer) (bs : List Byte) : (s.store b bs).mem = s.mem.writeBytes b.base bs := rfl
@[simp] theorem State.store_draws (b : Buffer) (bs : List Byte) : (s.store b bs).draws = s.draws := rfl
@[simp] theorem State.store_host (b : Buffer) (bs : List Byte) : (s.store b bs).host = s.host := rfl

/-! ### `putByte` -/

@[simp] theorem State.putByte_arg0 (b : Buffer) (k : Nat) (v : Byte) : (s.putByte b k v).arg0 = s.arg0 := rfl
@[simp] theorem State.putByte_arg1 (b : Buffer) (k : Nat) (v : Byte) : (s.putByte b k v).arg1 = s.arg1 := rfl
@[simp] theorem State.putByte_arg2 (b : Buffer) (k : Nat) (v : Byte) : (s.putByte b k v).arg2 = s.arg2 := rfl
@[simp] theorem State.putByte_opcode (b : Buffer) (k : Nat) (v : Byte) : (s.putByte b k v).opcode = s.opcode := rfl
@[simp] theorem State.putByte_status (b : Buffer) (k : Nat) (v : Byte) : (s.putByte b k v).status = s.status := rfl
@[simp] theorem State.putByte_errcode (b : Buffer) (k : Nat) (v : Byte) : (s.putByte b k v).errcode = s.errcode := rfl
@[simp] theorem State.putByte_crcRem (b : Buffer) (k : Nat) (v : Byte) : (s.putByte b k v).crcRem = s.crcRem := rfl
@[simp] theorem State.putByte_tlm (b : Buffer) (k : Nat) (v : Byte) : (s.putByte b k v).tlm = s.tlm := rfl
@[simp] theorem State.putByte_mem (b : Buffer) (k : Nat) (v : Byte) : (s.putByte b k v).mem = s.mem.write (b.base + k) v := rfl
@[simp] theorem State.putByte_draws (b : Buffer) (k : Nat) (v : Byte) : (s.putByte b k v).draws = s.draws := rfl
@[simp] theorem State.putByte_host (b : Buffer) (k : Nat) (v : Byte) : (s.putByte b k v).host = s.host := rfl

/-! ### `putCrc` -/

@[simp] theorem State.putCrc_arg0 (c : Byte) : (s.putCrc c).arg0 = s.arg0 := rfl
@[simp] theorem State.putCrc_arg1 (c : Byte) : (s.putCrc c).arg1 = s.arg1 := rfl
@[simp] theorem State.putCrc_arg2 (c : Byte) : (s.putCrc c).arg2 = s.arg2 := rfl
@[simp] theorem State.putCrc_opcode (c : Byte) : (s.putCrc c).opcode = s.opcode := rfl
@[simp] theorem State.putCrc_status (c : Byte) : (s.putCrc c).status = s.status := rfl
@[simp] theorem State.putCrc_errcode (c : Byte) : (s.putCrc c).errcode = s.errcode := rfl
@[simp] theorem State.putCrc_crcRem (c : Byte) : (s.putCrc c).crcRem = c := rfl
@[simp] theorem State.putCrc_tlm (c : Byte) : (s.putCrc c).tlm = s.tlm := rfl
@[simp] theorem State.putCrc_mem (c : Byte) : (s.putCrc c).mem = s.mem := rfl
@[simp] theorem State.putCrc_draws (c : Byte) : (s.putCrc c).draws = s.draws := rfl
@[simp] theorem State.putCrc_host (c : Byte) : (s.putCrc c).host = s.host := rfl

/-! ### `putTlm` -/

@[simp] theorem State.putTlm_arg0 (t : Telemetry) : (s.putTlm t).arg0 = s.arg0 := rfl
@[simp] theorem State.putTlm_arg1 (t : Telemetry) : (s.putTlm t).arg1 = s.arg1 := rfl
@[simp] theorem State.putTlm_arg2 (t : Telemetry) : (s.putTlm t).arg2 = s.arg2 := rfl
@[simp] theorem State.putTlm_opcode (t : Telemetry) : (s.putTlm t).opcode = s.opcode := rfl
@[simp] theorem State.putTlm_status (t : Telemetry) : (s.putTlm t).status = s.status := rfl
@[simp] theorem State.putTlm_errcode (t : Telemetry) : (s.putTlm t).errcode = s.errcode := rfl
@[simp] theorem State.putTlm_crcRem (t : Telemetry) : (s.putTlm t).crcRem = s.crcRem := rfl
@[simp] theorem State.putTlm_tlm (t : Telemetry) : (s.putTlm t).tlm = t := rfl
@[simp] theorem State.putTlm_mem (t : Telemetry) : (s.putTlm t).mem = s.mem := rfl
@[simp] theorem State.putTlm_draws (t : Telemetry) : (s.putTlm t).draws = s.draws := rfl
@[simp] theorem State.putTlm_host (t : Telemetry) : (s.putTlm t).host = s.host := rfl

/-! ### `putFlag` -/

@[simp] theorem State.putFlag_arg0 (f : StatusFlag) (b : Bool) : (s.putFlag f b).arg0 = s.arg0 := rfl
@[simp] theorem State.putFlag_arg1 (f : StatusFlag) (b : Bool) : (s.putFlag f b).arg1 = s.arg1 := rfl
@[simp] theorem State.putFlag_arg2 (f : StatusFlag) (b : Bool) : (s.putFlag f b).arg2 = s.arg2 := rfl
@[simp] theorem State.putFlag_opcode (f : StatusFlag) (b : Bool) : (s.putFlag f b).opcode = s.opcode := rfl
@[simp] theorem State.putFlag_status (f : StatusFlag) (b : Bool) : (s.putFlag f b).status = setBit s.status f.bit b := rfl
@[simp] theorem State.putFlag_errcode (f : StatusFlag) (b : Bool) : (s.putFlag f b).errcode = s.errcode := rfl
@[simp] theorem State.putFlag_crcRem (f : StatusFlag) (b : Bool) : (s.putFlag f b).crcRem = s.crcRem := rfl
@[simp] theorem State.putFlag_tlm (f : StatusFlag) (b : Bool) : (s.putFlag f b).tlm = s.tlm := rfl
@[simp] theorem State.putFlag_mem (f : StatusFlag) (b : Bool) : (s.putFlag f b).mem = s.mem := rfl
@[simp] theorem State.putFlag_draws (f : StatusFlag) (b : Bool) : (s.putFlag f b).draws = s.draws := rfl
@[simp] theorem State.putFlag_host (f : StatusFlag) (b : Bool) : (s.putFlag f b).host = s.host := rfl

/-! ### `afterDraw` -/

@[simp] theorem State.afterDraw_arg0 : (s.afterDraw).arg0 = s.arg0 := rfl
@[simp] theorem State.afterDraw_arg1 : (s.afterDraw).arg1 = s.arg1 := rfl
@[simp] theorem State.afterDraw_arg2 : (s.afterDraw).arg2 = s.arg2 := rfl
@[simp] theorem State.afterDraw_opcode : (s.afterDraw).opcode = s.opcode := rfl
@[simp] theorem State.afterDraw_status : (s.afterDraw).status = s.status := rfl
@[simp] theorem State.afterDraw_errcode : (s.afterDraw).errcode = s.errcode := rfl
@[simp] theorem State.afterDraw_crcRem : (s.afterDraw).crcRem = s.crcRem := rfl
@[simp] theorem State.afterDraw_tlm : (s.afterDraw).tlm = s.tlm := rfl
@[simp] theorem State.afterDraw_mem : (s.afterDraw).mem = s.mem := rfl
@[simp] theorem State.afterDraw_draws : (s.afterDraw).draws = s.draws + 1 := rfl
@[simp] theorem State.afterDraw_host : (s.afterDraw).host = s.host := rfl

/-! ### `popEvent` -/

@[simp] theorem State.popEvent_arg0 (rest : List HostEvent) : (s.popEvent rest).arg0 = s.arg0 := rfl
@[simp] theorem State.popEvent_arg1 (rest : List HostEvent) : (s.popEvent rest).arg1 = s.arg1 := rfl
@[simp] theorem State.popEvent_arg2 (rest : List HostEvent) : (s.popEvent rest).arg2 = s.arg2 := rfl
@[simp] theorem State.popEvent_opcode (rest : List HostEvent) : (s.popEvent rest).opcode = s.opcode := rfl
@[simp] theorem State.popEvent_status (rest : List HostEvent) : (s.popEvent rest).status = s.status := rfl
@[simp] theorem State.popEvent_errcode (rest : List HostEvent) : (s.popEvent rest).errcode = s.errcode := rfl
@[simp] theorem State.popEvent_crcRem (rest : List HostEvent) : (s.popEvent rest).crcRem = s.crcRem := rfl
@[simp] theorem State.popEvent_tlm (rest : List HostEvent) : (s.popEvent rest).tlm = s.tlm := rfl
@[simp] theorem State.popEvent_mem (rest : List HostEvent) : (s.popEvent rest).mem = s.mem := rfl
@[simp] theorem State.popEvent_draws (rest : List HostEvent) : (s.popEvent rest).draws = s.draws := rfl
@[simp] theorem State.popEvent_host_pending (rest : List HostEvent) : (s.popEvent rest).host.pending = rest := rfl
@[simp] theorem State.popEvent_host_reads (rest : List HostEvent) : (s.popEvent rest).host.reads = s.host.reads := rfl
@[simp] theorem State.popEvent_host_frames (rest : List HostEvent) : (s.popEvent rest).host.frames = s.host.frames := rfl
@[simp] theorem State.popEvent_host_settle (rest : List HostEvent) : (s.popEvent rest).host.settle = s.host.settle := rfl
@[simp] theorem State.popEvent_host_learntMode (rest : List HostEvent) : (s.popEvent rest).host.learntMode = s.host.learntMode := rfl
@[simp] theorem State.popEvent_host_awaited (rest : List HostEvent) : (s.popEvent rest).host.awaited = s.host.awaited := rfl

/-! ### `logRead` -/

@[simp] theorem State.logRead_arg0 (v : Byte) : (s.logRead v).arg0 = s.arg0 := rfl
@[simp] theorem State.logRead_arg1 (v : Byte) : (s.logRead v).arg1 = s.arg1 := rfl
@[simp] theorem State.logRead_arg2 (v : Byte) : (s.logRead v).arg2 = s.arg2 := rfl
@[simp] theorem State.logRead_opcode (v : Byte) : (s.logRead v).opcode = s.opcode := rfl
@[simp] theorem State.logRead_status (v : Byte) : (s.logRead v).status = s.status := rfl
@[simp] theorem State.logRead_errcode (v : Byte) : (s.logRead v).errcode = s.errcode := rfl
@[simp] theorem State.logRead_crcRem (v : Byte) : (s.logRead v).crcRem = s.crcRem := rfl
@[simp] theorem State.logRead_tlm (v : Byte) : (s.logRead v).tlm = s.tlm := rfl
@[simp] theorem State.logRead_mem (v : Byte) : (s.logRead v).mem = s.mem := rfl
@[simp] theorem State.logRead_draws (v : Byte) : (s.logRead v).draws = s.draws := rfl
@[simp] theorem State.logRead_host_pending (v : Byte) : (s.logRead v).host.pending = s.host.pending := rfl
@[simp] theorem State.logRead_host_reads (v : Byte) : (s.logRead v).host.reads = s.host.reads ++ [v] := rfl
@[simp] theorem State.logRead_host_frames (v : Byte) : (s.logRead v).host.frames = s.host.frames := rfl
@[simp] theorem State.logRead_host_settle (v : Byte) : (s.logRead v).host.settle = s.host.settle := rfl
@[simp] theorem State.logRead_host_learntMode (v : Byte) : (s.logRead v).host.learntMode = s.host.learntMode := rfl
@[simp] theorem State.logRead_host_awaited (v : Byte) : (s.logRead v).host.awaited = s.host.awaited := rfl

/-! ### `handOver` -/

@[simp] theorem State.handOver_arg0 : (s.handOver).arg0 = s.arg0 := rfl
@[simp] theorem State.handOver_arg1 : (s.handOver).arg1 = s.arg1 := rfl
@[simp] theorem State.handOver_arg2 : (s.handOver).arg2 = s.arg2 := rfl
@[simp] theorem State.handOver_opcode : (s.handOver).opcode = s.opcode := rfl
@[simp] theorem State.handOver_status : (s.handOver).status = s.status := rfl
@[simp] theorem State.handOver_errcode : (s.handOver).errcode = s.errcode := rfl
@[simp] theorem State.handOver_crcRem : (s.handOver).crcRem = s.crcRem := rfl
@[simp] theorem State.handOver_tlm : (s.handOver).tlm = s.tlm := rfl
@[simp] theorem State.handOver_mem : (s.handOver).mem = s.mem := rfl
@[simp] theorem State.handOver_draws : (s.handOver).draws = s.draws := rfl
@[simp] theorem State.handOver_host : (s.handOver).host = s.host.handOver (s.bytes .tx) (s.flag .lightTx) := rfl

section
variable (h : HostSide) (f : List Byte) (b : Bool)
@[simp] theorem HostSide.handOver_pending : (h.handOver f b).pending = h.pending := rfl
@[simp] theorem HostSide.handOver_reads : (h.handOver f b).reads = h.reads := rfl
@[simp] theorem HostSide.handOver_frames : (h.handOver f b).frames = h.frames ++ [f] := rfl
@[simp] theorem HostSide.handOver_settle : (h.handOver f b).settle = if b then Config.lightSettleMs else 0 := rfl
@[simp] theorem HostSide.handOver_awaited : (h.handOver f b).awaited =
    if f = tlmRequest then some (List.range Config.frameLen) else if isCoolingFrame f then none else h.awaited := rfl
@[simp] theorem HostSide.handOver_learntMode :
    (h.handOver f b).learntMode = if isCoolingFrame f then none else h.learntMode := rfl
@[simp] theorem HostSide.afterReset_pending : h.afterReset.pending = h.pending := rfl
@[simp] theorem HostSide.afterReset_reads : h.afterReset.reads = h.reads := rfl
@[simp] theorem HostSide.afterReset_frames : h.afterReset.frames = h.frames := rfl
@[simp] theorem HostSide.afterReset_settle : h.afterReset.settle = h.settle := rfl
@[simp] theorem HostSide.afterReset_awaited :
    h.afterReset.awaited = h.awaited.map fun _ => List.range Config.frameLen := rfl
@[simp] theorem HostSide.afterReset_learntMode : h.afterReset.learntMode = h.learntMode := rfl
end

/-! ### `noteResponse` -/

/-- Noting a response byte touches the host's side alone: what is awaited and what is learnt (R214). -/
theorem State.noteResponse_eq (k : Nat) : s.noteResponse k = { s with host := { s.host with
    awaited := (s.noteResponse k).host.awaited, learntMode := (s.noteResponse k).host.learntMode } } := by
  unfold State.noteResponse
  split
  · rfl
  · split <;> rfl

@[simp] theorem State.noteResponse_arg0 (k : Nat) : (s.noteResponse k).arg0 = s.arg0 := by rw [s.noteResponse_eq]
@[simp] theorem State.noteResponse_arg1 (k : Nat) : (s.noteResponse k).arg1 = s.arg1 := by rw [s.noteResponse_eq]
@[simp] theorem State.noteResponse_arg2 (k : Nat) : (s.noteResponse k).arg2 = s.arg2 := by rw [s.noteResponse_eq]
@[simp] theorem State.noteResponse_opcode (k : Nat) : (s.noteResponse k).opcode = s.opcode := by rw [s.noteResponse_eq]
@[simp] theorem State.noteResponse_status (k : Nat) : (s.noteResponse k).status = s.status := by rw [s.noteResponse_eq]
@[simp] theorem State.noteResponse_errcode (k : Nat) : (s.noteResponse k).errcode = s.errcode := by
  rw [s.noteResponse_eq]
@[simp] theorem State.noteResponse_crcRem (k : Nat) : (s.noteResponse k).crcRem = s.crcRem := by rw [s.noteResponse_eq]
@[simp] theorem State.noteResponse_tlm (k : Nat) : (s.noteResponse k).tlm = s.tlm := by rw [s.noteResponse_eq]
@[simp] theorem State.noteResponse_mem (k : Nat) : (s.noteResponse k).mem = s.mem := by rw [s.noteResponse_eq]
@[simp] theorem State.noteResponse_draws (k : Nat) : (s.noteResponse k).draws = s.draws := by rw [s.noteResponse_eq]
@[simp] theorem State.noteResponse_host_pending (k : Nat) : (s.noteResponse k).host.pending = s.host.pending := by
  rw [s.noteResponse_eq]
@[simp] theorem State.noteResponse_host_reads (k : Nat) : (s.noteResponse k).host.reads = s.host.reads := by
  rw [s.noteResponse_eq]
@[simp] theorem State.noteResponse_host_frames (k : Nat) : (s.noteResponse k).host.frames = s.host.frames := by
  rw [s.noteResponse_eq]
@[simp] theorem State.noteResponse_host_settle (k : Nat) : (s.noteResponse k).host.settle = s.host.settle := by
  rw [s.noteResponse_eq]

/-! ### `passTime` -/

@[simp] theorem State.passTime_arg0 (t : Nat) : (s.passTime t).arg0 = s.arg0 := rfl
@[simp] theorem State.passTime_arg1 (t : Nat) : (s.passTime t).arg1 = s.arg1 := rfl
@[simp] theorem State.passTime_arg2 (t : Nat) : (s.passTime t).arg2 = s.arg2 := rfl
@[simp] theorem State.passTime_opcode (t : Nat) : (s.passTime t).opcode = s.opcode := rfl
@[simp] theorem State.passTime_status (t : Nat) : (s.passTime t).status = s.status := rfl
@[simp] theorem State.passTime_errcode (t : Nat) : (s.passTime t).errcode = s.errcode := rfl
@[simp] theorem State.passTime_crcRem (t : Nat) : (s.passTime t).crcRem = s.crcRem := rfl
@[simp] theorem State.passTime_tlm (t : Nat) : (s.passTime t).tlm = s.tlm := rfl
@[simp] theorem State.passTime_mem (t : Nat) : (s.passTime t).mem = s.mem := rfl
@[simp] theorem State.passTime_draws (t : Nat) : (s.passTime t).draws = s.draws := rfl
@[simp] theorem State.passTime_host_pending (t : Nat) : (s.passTime t).host.pending = s.host.pending := rfl
@[simp] theorem State.passTime_host_reads (t : Nat) : (s.passTime t).host.reads = s.host.reads := rfl
@[simp] theorem State.passTime_host_frames (t : Nat) : (s.passTime t).host.frames = s.host.frames := rfl
@[simp] theorem State.passTime_host_settle (t : Nat) : (s.passTime t).host.settle = s.host.settle - t := rfl
@[simp] theorem State.passTime_host_learntMode (t : Nat) : (s.passTime t).host.learntMode = s.host.learntMode := rfl
@[simp] theorem State.passTime_host_awaited (t : Nat) : (s.passTime t).host.awaited = s.host.awaited := rfl

/-! ### `resetInput` -/

@[simp] theorem resetInput_arg0 : (resetInput s).arg0 = 0x00 := rfl
@[simp] theorem resetInput_arg1 : (resetInput s).arg1 = 0x00 := rfl
@[simp] theorem resetInput_arg2 : (resetInput s).arg2 = 0x00 := rfl
@[simp] theorem resetInput_opcode : (resetInput s).opcode = 0x00 := rfl
@[simp] theorem resetInput_status : (resetInput s).status = 0x00 := rfl
@[simp] theorem resetInput_errcode : (resetInput s).errcode = 0x00 := rfl
@[simp] theorem resetInput_crcRem : (resetInput s).crcRem = 0x00 := rfl
@[simp] theorem resetInput_tlm : (resetInput s).tlm = Telemetry.zero := rfl
@[simp] theorem resetInput_mem : (resetInput s).mem = [] := rfl
@[simp] theorem resetInput_draws : (resetInput s).draws = s.draws := rfl
@[simp] theorem resetInput_host : (resetInput s).host = s.host.afterReset := rfl

/-! ### `finish` -/

@[simp] theorem finish_arg0 (c : ErrCode) : (finish c s).arg0 = s.arg0 := by cases c <;> rfl
@[simp] theorem finish_arg1 (c : ErrCode) : (finish c s).arg1 = s.arg1 := by cases c <;> rfl
@[simp] theorem finish_arg2 (c : ErrCode) : (finish c s).arg2 = s.arg2 := by cases c <;> rfl
@[simp] theorem finish_opcode (c : ErrCode) : (finish c s).opcode = s.opcode := by cases c <;> rfl
theorem finish_status (c : ErrCode) :
    (finish c s).status = if c = .none then s.status else setBit s.status StatusFlag.stickyErr.bit true := by
  cases c <;> rfl
@[simp] theorem finish_none_status : (finish .none s).status = s.status := rfl
@[simp] theorem finish_errcode (c : ErrCode) : (finish c s).errcode = c.code := by cases c <;> rfl
@[simp] theorem finish_crcRem (c : ErrCode) : (finish c s).crcRem = s.crcRem := by cases c <;> rfl
@[simp] theorem finish_tlm (c : ErrCode) : (finish c s).tlm = s.tlm := by cases c <;> rfl
@[simp] theorem finish_mem (c : ErrCode) : (finish c s).mem = s.mem := by cases c <;> rfl
@[simp] theorem finish_draws (c : ErrCode) : (finish c s).draws = s.draws := by cases c <;> rfl
@[simp] theorem finish_host (c : ErrCode) : (finish c s).host = s.host := by cases c <;> rfl

end Sys2Proof.Machine
end

