-- ==== Sys2Proof/Laws/Flags.lean ====
section
/-! SUPPORT. STATUS after a flag is written, and after an operation ends. -/

namespace Sys2Proof.Machine

/-- Writing one bit of a byte writes that bit and keeps the others. -/
theorem getLsbD_setBit (v : Byte) (k j : Nat) (b : Bool) (hj : j < 8) :
    (setBit v k b).getLsbD j = if j = k then b else v.getLsbD j := by
  cases b <;> simp only [setBit, Bool.false_eq_true, if_false, if_true, BitVec.getLsbD_and, BitVec.getLsbD_or,
    BitVec.getLsbD_not, BitVec.getLsbD_shiftLeft, BitVec.getLsbD_one]
  all_goals
    by_cases h : j = k
    · subst h; simp [hj]
    · rcases Nat.lt_or_gt_of_ne h with h' | h'
      · simp [hj, h, h']
      · have : j - k ≠ 0 := by omega
        simp [hj, h, this]

theorem StatusFlag.bit_lt (f : StatusFlag) : f.bit < 5 := by cases f <;> decide

theorem StatusFlag.bit_inj {f g : StatusFlag} : f.bit = g.bit ↔ f = g := by
  cases f <;> cases g <;> decide

/-- Writing one flag writes that flag and keeps the others. -/
@[simp] theorem State.flag_putFlag (s : State) (f g : StatusFlag) (b : Bool) :
    (s.putFlag f b).flag g = if g = f then b else s.flag g := by
  have := g.bit_lt
  simp only [State.flag, State.putFlag, getLsbD_setBit _ _ _ _ (show g.bit < 8 by omega), StatusFlag.bit_inj]

/-- The reserved bits [7:5] are kept by every flag write (R30). -/
theorem setBit_flag_reserved (v : Byte) (f : StatusFlag) (b : Bool) : (setBit v f.bit b) >>> 5 = v >>> 5 := by
  have hf := f.bit_lt
  ext j hj
  simp only [← BitVec.getLsbD_eq_getElem, BitVec.getLsbD_ushiftRight]
  by_cases h : 5 + j < 8
  · rw [getLsbD_setBit _ _ _ _ h, if_neg (by omega)]
  · rw [BitVec.getLsbD_of_ge _ _ (by omega), BitVec.getLsbD_of_ge _ _ (by omega)]

/-- A flag after an operation ends: STICKY_ERR is set by an error, and nothing else changes (R91). -/
theorem finish_flag (c : ErrCode) (s : State) (f : StatusFlag) :
    (finish c s).flag f = if f = .stickyErr ∧ c ≠ .none then true else s.flag f := by
  unfold finish
  split
  · subst ‹c = _›; simp [State.flag]
  · simp_all [State.flag_putFlag]; rfl

@[simp] theorem finish_none_flag (s : State) (f : StatusFlag) : (finish .none s).flag f = s.flag f := rfl

/-- A bit of STATUS after an operation ends. -/
theorem finish_status_bit (c : ErrCode) (s : State) (k : Nat) (hk : k < 8) (h : k ≠ StatusFlag.stickyErr.bit) :
    (finish c s).status.getLsbD k = s.status.getLsbD k := by
  rw [finish_status]
  split
  · rfl
  · rw [getLsbD_setBit _ _ _ _ hk, if_neg h]

theorem finish_status_reserved (c : ErrCode) (s : State) : (finish c s).status >>> 5 = s.status >>> 5 := by
  rw [finish_status]
  split
  · rfl
  · exact setBit_flag_reserved _ _ _

@[simp] theorem ErrCode.code_none : ErrCode.none.code = 0 := rfl

theorem ErrCode.code_le (c : ErrCode) : c.code.toNat ≤ 4 := by cases c <;> decide

theorem ErrCode.code_eq_zero {c : ErrCode} : c.code = 0 ↔ c = .none := by cases c <;> decide

/-- A field-preserving update leaves the flags alone. -/
@[simp] theorem State.flag_store (s : State) (b : Buffer) (bs : List Byte) (f : StatusFlag) :
    (s.store b bs).flag f = s.flag f := rfl
@[simp] theorem State.flag_putByte (s : State) (b : Buffer) (k : Nat) (v : Byte) (f : StatusFlag) :
    (s.putByte b k v).flag f = s.flag f := rfl
@[simp] theorem State.flag_putCrc (s : State) (c : Byte) (f : StatusFlag) : (s.putCrc c).flag f = s.flag f := rfl
@[simp] theorem State.flag_putTlm (s : State) (t : Telemetry) (f : StatusFlag) : (s.putTlm t).flag f = s.flag f := rfl
@[simp] theorem State.flag_afterDraw (s : State) (f : StatusFlag) : s.afterDraw.flag f = s.flag f := rfl
@[simp] theorem State.flag_popEvent (s : State) (r : List HostEvent) (f : StatusFlag) :
    (s.popEvent r).flag f = s.flag f := rfl
@[simp] theorem State.flag_logRead (s : State) (v : Byte) (f : StatusFlag) : (s.logRead v).flag f = s.flag f := rfl
@[simp] theorem State.flag_handOver (s : State) (f : StatusFlag) : s.handOver.flag f = s.flag f := rfl
@[simp] theorem State.flag_noteResponse (s : State) (k : Nat) (f : StatusFlag) :
    (s.noteResponse k).flag f = s.flag f := by simp [State.flag]
@[simp] theorem State.flag_passTime (s : State) (t : Nat) (f : StatusFlag) : (s.passTime t).flag f = s.flag f := rfl

end Sys2Proof.Machine
end

