-- ==== Sys2Proof/Laws/Layout.lean ====
section
/-! SUPPORT. The lengths of the layouts, and the parts of a frame that `frameBytes` builds. -/

namespace Sys2Proof.Machine

@[simp] theorem zeros_length (n : Nat) : (zeros n).length = n := by simp [zeros]

@[simp] theorem coolingBase_length (mode : Byte) : (coolingBase mode).length = 60 := by
  simp [coolingBase, Config.coolingHdr]

@[simp] theorem putFan_length (ofs : Nat) (d : Byte) (p : List Byte) : (putFan ofs d p).length = p.length := by
  simp [putFan]

@[simp] theorem fanLayoutAt_length (o₁ o₂ : Nat) (pct mode : Byte) : (fanLayoutAt o₁ o₂ pct mode).length = 60 := by
  simp [fanLayoutAt]

@[simp] theorem fanLayout_length (pct mode : Byte) : (fanLayout pct mode).length = 60 := by simp [fanLayout]

theorem lightPayload_length (t : List Color) : (lightPayload t).length = 12 + 3 * t.length := by
  have h : (t.flatMap fun c => [c.2.1, c.1, c.2.2]).length = 3 * t.length := by
    induction t with
    | nil => rfl
    | cons c t ih => simp only [List.flatMap_cons, List.length_append, ih, List.length_cons, List.length_nil]; omega
  simp only [lightPayload, List.length_append, h, zeros_length, List.length_cons, List.length_nil]; omega

@[simp] theorem solidColors_length (r g b : Byte) : (solidColors r g b).length = 16 := by
  simp [solidColors, Config.ledCount]

theorem frameBody_length (n cmd : Byte) (fe : Bool) (feat : BitVec 3) (pl : List Byte) (h : pl.length = 60) :
    (frameBody n cmd fe feat pl).length = 62 := by
  unfold frameBody; split <;> simp [h]

theorem frameBytes_length (n cmd : Byte) (fe : Bool) (feat : BitVec 3) (pl : List Byte) (h : pl.length = 60) :
    (frameBytes n cmd fe feat pl).length = 64 := by
  simp [frameBytes, frameBody_length n cmd fe feat pl h]

/-- Byte 0 of a built frame is the marker (R121). -/
theorem frameBytes_zero (n cmd : Byte) (fe : Bool) (feat : BitVec 3) (pl : List Byte) :
    (frameBytes n cmd fe feat pl).getD 0 0 = Config.marker := rfl

/-- The checksummed range of a built frame is its body (R121). -/
theorem checkedRange_frameBytes (n cmd : Byte) (fe : Bool) (feat : BitVec 3) (pl : List Byte) (h : pl.length = 60) :
    checkedRange (frameBytes n cmd fe feat pl) = frameBody n cmd fe feat pl := by
  have hl := frameBody_length n cmd fe feat pl h
  rw [checkedRange, frameBytes, List.append_assoc, List.singleton_append, List.drop_one, List.tail_cons,
    List.take_append_of_le_length (by omega), List.take_of_length_le (by omega)]

/-- Byte 63 of a built frame is the checksum of its body (R121). -/
theorem trailer_frameBytes (n cmd : Byte) (fe : Bool) (feat : BitVec 3) (pl : List Byte) (h : pl.length = 60) :
    trailer (frameBytes n cmd fe feat pl) = crc8 (frameBody n cmd fe feat pl) := by
  have hl := frameBody_length n cmd fe feat pl h
  simp [trailer, frameBytes, List.getD_eq_getElem?_getD, hl]

/-- Constraints (a) and (b) of R143 hold of this LRPE's offsets. -/
theorem fanModeOfs_ok : Config.fanOfsOk Config.fanModeOfs1 Config.fanModeOfs2 = true := by
  unfold Config.fanModeOfs1 Config.fanModeOfs2 Config.fanModeOfs
  split
  · assumption
  · decide

end Sys2Proof.Machine
end

