-- ==== Sys2Proof/Laws/Memory.lean ====
section
/-! SUPPORT. The laws of the byte memory: a read after a write, and that every operation keeps the canonical form. -/

namespace Sys2Proof.Machine

@[simp] theorem Memory.read_nil (a : Nat) : Memory.read [] a = Memory.unlisted := rfl

theorem Memory.read_cons (c : Host.Cell) (m : Memory) (a : Nat) :
    Memory.read (c :: m) a = if c.1 = a then c.2 else Memory.read m a := rfl

theorem Memory.erase_cons (c : Host.Cell) (m : Memory) (a : Nat) :
    Memory.erase (c :: m) a = if c.1 = a then Memory.erase m a else c :: Memory.erase m a := by
  by_cases h : c.1 = a <;> simp [Memory.erase, h]

theorem Memory.read_erase (m : Memory) (a b : Nat) :
    (m.erase a).read b = if b = a then Memory.unlisted else m.read b := by
  induction m with
  | nil => simp [Memory.erase]
  | cons c m ih =>
    rw [Memory.erase_cons, Memory.read_cons]
    split <;> rename_i h
    · rw [ih]; split <;> simp_all
      intro h'; simp_all
    · rw [Memory.read_cons, ih]; split <;> split <;> simp_all

theorem Memory.read_insert (m : Memory) (a b : Nat) (v : Byte) (h : ∀ c ∈ m, c.1 ≠ a) :
    (m.insert a v).read b = if b = a then v else m.read b := by
  induction m with
  | nil => simp [Memory.insert, Memory.read_cons, eq_comm]
  | cons c m ih =>
    have hc : c.1 ≠ a := h c (by simp)
    have hm : ∀ d ∈ m, d.1 ≠ a := fun d hd => h d (by simp [hd])
    unfold Memory.insert
    split
    · rw [Memory.read_cons]; simp [eq_comm]
    · rw [Memory.read_cons, ih hm, Memory.read_cons]
      split <;> split <;> simp_all

theorem Memory.not_mem_erase (m : Memory) (a : Nat) : ∀ c ∈ m.erase a, c.1 ≠ a := by
  simp [Memory.erase]

/-- A read after a write: the byte written at its own address, the old byte at every other. -/
theorem Memory.read_write (m : Memory) (a b : Nat) (v : Byte) :
    (m.write a v).read b = if b = a then v else m.read b := by
  unfold Memory.write
  split
  · rw [Memory.read_erase]; simp_all
  · rw [Memory.read_insert _ _ _ _ (Memory.not_mem_erase m a), Memory.read_erase]
    split <;> simp_all

/-- A read after a run of writes. -/
theorem Memory.read_writeBytes (m : Memory) (a b : Nat) (vs : List Byte) :
    (m.writeBytes a vs).read b = if a ≤ b ∧ b < a + vs.length then vs.getD (b - a) 0 else m.read b := by
  induction vs generalizing m a with
  | nil =>
    rw [Memory.writeBytes, if_neg]
    simp only [List.length_nil]; omega
  | cons v vs ih =>
    rw [Memory.writeBytes, ih, Memory.read_write]
    simp only [List.length_cons]
    by_cases h : b = a
    · subst h
      rw [if_neg (by omega), if_pos rfl, if_pos (by omega)]
      simp
    · by_cases h' : a + 1 ≤ b ∧ b < a + 1 + vs.length
      · rw [if_pos h', if_pos (by omega)]
        obtain ⟨k, rfl⟩ : ∃ k, b = a + 1 + k := ⟨b - (a + 1), by omega⟩
        rw [show a + 1 + k - a = k + 1 by omega, show a + 1 + k - (a + 1) = k by omega]
        simp
      · rw [if_neg h', if_neg h, if_neg (by omega)]

theorem Memory.read_writeBytes_of_lt (m : Memory) (a b : Nat) (vs : List Byte) (h : b < a) :
    (m.writeBytes a vs).read b = m.read b := by
  rw [Memory.read_writeBytes, if_neg (by omega)]

theorem Memory.read_writeBytes_of_ge (m : Memory) (a b : Nat) (vs : List Byte) (h : a + vs.length ≤ b) :
    (m.writeBytes a vs).read b = m.read b := by
  rw [Memory.read_writeBytes, if_neg (by omega)]

@[simp] theorem Memory.readBytes_length (m : Memory) (a n : Nat) : (m.readBytes a n).length = n := by
  induction n generalizing a with
  | zero => rfl
  | succ n ih => simp [Memory.readBytes, ih]

/-- A run of reads, byte by byte. -/
theorem Memory.readBytes_eq_map (m : Memory) (a n : Nat) :
    m.readBytes a n = (List.range n).map fun k => m.read (a + k) := by
  induction n generalizing a with
  | zero => rfl
  | succ n ih =>
    rw [Memory.readBytes, ih, List.range_succ_eq_map]
    simp [Function.comp_def, Nat.add_assoc, Nat.add_comm 1]

/-- Two memories that read alike over a run give the same run of bytes. -/
theorem Memory.readBytes_congr (m m' : Memory) (a n : Nat) (h : ∀ k < n, m.read (a + k) = m'.read (a + k)) :
    m.readBytes a n = m'.readBytes a n := by
  rw [Memory.readBytes_eq_map, Memory.readBytes_eq_map]
  exact List.map_congr_left fun k hk => h k (List.mem_range.1 hk)

/-- A run read back where it was written. -/
theorem Memory.readBytes_writeBytes_same (m : Memory) (a : Nat) (vs : List Byte) :
    (m.writeBytes a vs).readBytes a vs.length = vs := by
  rw [Memory.readBytes_eq_map]
  apply List.ext_getElem (by simp)
  intro k h₁ h₂
  simp [Memory.read_writeBytes, h₂]

/-! ### The canonical form -/

theorem Memory.wf_nil : Memory.wf [] := ⟨List.Pairwise.nil, by simp⟩

theorem Memory.wf_erase {m : Memory} (h : m.wf) (a : Nat) : (m.erase a).wf :=
  ⟨h.1.sublist List.filter_sublist, fun c hc => h.2 c (List.mem_filter.1 hc).1⟩

theorem Memory.mem_insert {m : Memory} {a : Nat} {v : Byte} {c : Host.Cell} :
    c ∈ m.insert a v ↔ c = (a, v) ∨ c ∈ m := by
  induction m with
  | nil => simp [Memory.insert]
  | cons d m ih =>
    unfold Memory.insert
    split
    · simp
    · simp only [List.mem_cons, ih]; exact or_left_comm

theorem Memory.wf_insert {m : Memory} (h : m.wf) {a : Nat} {v : Byte} (hv : v ≠ Memory.unlisted)
    (ha : ∀ c ∈ m, c.1 ≠ a) : (m.insert a v).wf := by
  refine ⟨?_, fun c hc => ?_⟩
  · obtain ⟨hp, -⟩ := h
    induction m with
    | nil => simp [Memory.insert]
    | cons d m ih =>
      obtain ⟨hd, hp'⟩ := List.pairwise_cons.1 hp
      have hda := ha d (by simp)
      unfold Memory.insert
      split
      · rename_i hlt
        refine List.pairwise_cons.2 ⟨fun c hc => ?_, hp⟩
        rcases List.mem_cons.1 hc with rfl | hc
        · exact hlt
        · exact Nat.lt_trans hlt (hd c hc)
      · rename_i hlt
        refine List.pairwise_cons.2 ⟨fun c hc => ?_, ih (fun c hc => ha c (by simp [hc])) hp'⟩
        rcases Memory.mem_insert.1 hc with rfl | hc
        · simp only at hlt ⊢; omega
        · exact hd c hc
  · rcases Memory.mem_insert.1 hc with rfl | hc
    · exact hv
    · exact h.2 c hc

/-- A write keeps the canonical form. -/
theorem Memory.wf_write {m : Memory} (h : m.wf) (a : Nat) (v : Byte) : (m.write a v).wf := by
  unfold Memory.write
  split
  · exact Memory.wf_erase h a
  · exact Memory.wf_insert (Memory.wf_erase h a) ‹_› (Memory.not_mem_erase m a)

/-- A run of writes keeps the canonical form. -/
theorem Memory.wf_writeBytes {m : Memory} (h : m.wf) (a : Nat) (vs : List Byte) : (m.writeBytes a vs).wf := by
  induction vs generalizing m a with
  | nil => exact h
  | cons v vs ih => exact ih (Memory.wf_write h a v) (a + 1)

theorem Memory.mem_write {m : Memory} {a : Nat} {v : Byte} {c : Host.Cell} (h : c ∈ m.write a v) :
    c.1 = a ∨ c ∈ m := by
  unfold Memory.write at h
  split at h
  · exact .inr (List.mem_filter.1 h).1
  · rcases Memory.mem_insert.1 h with rfl | h
    · exact .inl rfl
    · exact .inr (List.mem_filter.1 h).1

/-- A run of writes lists no address outside the run that was not listed before. -/
theorem Memory.mem_writeBytes {m : Memory} {a : Nat} {vs : List Byte} {c : Host.Cell} (h : c ∈ m.writeBytes a vs) :
    (a ≤ c.1 ∧ c.1 < a + vs.length) ∨ c ∈ m := by
  induction vs generalizing m a with
  | nil => exact .inr h
  | cons v vs ih =>
    simp only [List.length_cons]
    rcases ih h with h | h
    · left; omega
    · rcases Memory.mem_write h with h | h
      · left; omega
      · exact .inr h

theorem State.reset_mem_wf : State.reset.mem.wf := Memory.wf_nil

theorem Memory.read_eq_of_mem {m : Memory} (h : m.wf) {c : Host.Cell} (hc : c ∈ m) : m.read c.1 = c.2 := by
  have hp := h.1
  clear h
  induction m with
  | nil => simp at hc
  | cons d m ih =>
    obtain ⟨hd, hp'⟩ := List.pairwise_cons.1 hp
    rw [Memory.read_cons]
    rcases List.mem_cons.1 hc with rfl | hc
    · simp
    · have := hd c hc
      rw [if_neg (by omega), ih hc hp']

theorem Memory.mem_of_read {m : Memory} {a : Nat} (h : m.read a ≠ Memory.unlisted) : (a, m.read a) ∈ m := by
  induction m with
  | nil => simp at h
  | cons d m ih =>
    rw [Memory.read_cons] at h ⊢
    split <;> rename_i hd
    · subst hd; simp
    · rw [if_neg hd] at h; exact List.mem_cons_of_mem _ (ih h)

/-- Two canonical memories that read alike everywhere are the same data. -/
theorem Memory.ext_of_wf {m m' : Memory} (h : m.wf) (h' : m'.wf) (hr : ∀ a, m.read a = m'.read a) : m = m' := by
  have sub : ∀ {m m' : Memory}, m.wf → (∀ a, m.read a = m'.read a) → ∀ c ∈ m, c ∈ m' := by
    intro m m' h hr c hc
    have e := Memory.read_eq_of_mem h hc
    have hne := h.2 c hc
    rw [← e, hr c.1] at hne
    have := Memory.mem_of_read hne
    rwa [← hr c.1, e] at this
  have nd : ∀ {m : Memory}, m.wf → m.Nodup := fun h =>
    h.1.imp (fun hlt he => by rw [he] at hlt; omega)
  have hperm : m.Perm m' := (List.perm_ext_iff_of_nodup (nd h) (nd h')).2 fun c =>
    ⟨sub h hr c, sub h' (fun a => (hr a).symm) c⟩
  exact hperm.eq_of_pairwise (le := fun c d : Host.Cell => c.1 < d.1)
    (fun _ _ _ _ h₁ h₂ => absurd h₁ (by omega)) h.1 h'.1

/-! ### Buffers -/

@[simp] theorem State.bytes_length (s : State) (b : Buffer) : (s.bytes b).length = b.size := by
  simp [State.bytes]

theorem State.bytes_eq_map (s : State) (b : Buffer) : s.bytes b = (List.range b.size).map (s.byte b) := by
  simp only [State.bytes, Memory.readBytes_eq_map]; rfl

theorem Buffer.addr_inj {b c : Buffer} {j k : Nat} (hj : j < b.size) (hk : k < c.size)
    (h : b.base + j = c.base + k) : b = c ∧ j = k := by
  cases b <;> cases c <;> simp only [Buffer.base, Buffer.size] at * <;> first | omega | simp_all

/-- A byte of one buffer after another buffer (or the same) was rewritten. -/
theorem State.byte_store (s : State) (b c : Buffer) (bs : List Byte) (k : Nat) (hl : bs.length = b.size)
    (hk : k < c.size) :
    (s.store b bs).byte c k = if c = b then bs.getD k 0 else s.byte c k := by
  simp only [State.byte, State.store, Memory.read_writeBytes, hl]
  by_cases h : c = b
  · subst h
    rw [if_pos (by omega), if_pos rfl, Nat.add_sub_cancel_left]
  · rw [if_neg h, if_neg]
    rintro ⟨h₁, h₂⟩
    exact h (Buffer.addr_inj (k := c.base + k - b.base) hk (by omega) (by omega)).1

/-- A whole buffer after a buffer was rewritten. -/
theorem State.bytes_store (s : State) (b c : Buffer) (bs : List Byte) (hl : bs.length = b.size) :
    (s.store b bs).bytes c = if c = b then bs else s.bytes c := by
  split
  · subst ‹c = b›
    simp only [State.bytes, State.store, ← hl]
    exact Memory.readBytes_writeBytes_same _ _ _
  · rw [State.bytes_eq_map, State.bytes_eq_map]
    refine List.map_congr_left fun k hk => ?_
    rw [State.byte_store s b c bs k hl (List.mem_range.1 hk), if_neg ‹_›]

/-- A byte of a buffer after one byte was written. -/
theorem State.byte_putByte (s : State) (b c : Buffer) (j k : Nat) (v : Byte) (hj : j < b.size) (hk : k < c.size) :
    (s.putByte b j v).byte c k = if c = b ∧ k = j then v else s.byte c k := by
  simp only [State.byte, State.putByte, Memory.read_write]
  by_cases h : c.base + k = b.base + j
  · obtain ⟨rfl, rfl⟩ := Buffer.addr_inj hk hj h
    simp
  · rw [if_neg h, if_neg]
    rintro ⟨rfl, rfl⟩; exact h rfl

theorem Buffer.isBufferAddr_of_range {b : Buffer} {a : Nat} (h : b.base ≤ a ∧ a < b.base + b.size) :
    isBufferAddr a = true := by
  cases b <;> simp only [Buffer.base, Buffer.size, isBufferAddr] at * <;> simp <;> omega

end Sys2Proof.Machine
end

