-- ==== Sys2Proof/Laws/Ops.lean ====
section
/-! SUPPORT. What each shared operation does, said once: `encode_frame` (R121), `validate_rx` (R124) and the field
values of TLM_DECODE (R173). -/

namespace Sys2Proof.Machine

theorem State.framePayload_length (s : State) (ple : Bool) : (s.framePayload ple).length = 60 := by
  cases ple <;> simp [State.framePayload, Buffer.size, Config.payloadLen]

theorem State.frameWith_length (s : State) (n cmd : Byte) (fe : Bool) (feat : BitVec 3) (ple : Bool) :
    (s.frameWith n cmd fe feat ple).length = 64 := frameBytes_length _ _ _ _ _ (s.framePayload_length ple)

/-- Every buffer byte after `encode_frame`: TX_BUF holds the frame, the other buffers are kept. -/
theorem encodeFrame_byte (cmd : Byte) (fe : Bool) (feat : BitVec 3) (ple : Bool) (s : State) (c : Buffer) (k : Nat)
    (hk : k < c.size) :
    (encodeFrame cmd fe feat ple s).byte c k =
      if c = .tx then (s.frameWith s.nextNonce cmd fe feat ple).getD k 0 else s.byte c k :=
  State.byte_store s.afterDraw .tx c _ k (State.frameWith_length _ _ _ _ _ _) hk

/-- Every buffer after `encode_frame`. -/
theorem encodeFrame_bytes (cmd : Byte) (fe : Bool) (feat : BitVec 3) (ple : Bool) (s : State) (c : Buffer) :
    (encodeFrame cmd fe feat ple s).bytes c =
      if c = .tx then s.frameWith s.nextNonce cmd fe feat ple else s.bytes c :=
  State.bytes_store s.afterDraw .tx c _ (State.frameWith_length _ _ _ _ _ _)

theorem encodeFrame_mem (cmd : Byte) (fe : Bool) (feat : BitVec 3) (ple : Bool) (s : State) :
    (encodeFrame cmd fe feat ple s).mem =
      s.mem.writeBytes Buffer.tx.base (s.frameWith s.nextNonce cmd fe feat ple) := rfl

theorem encodeFrame_crcRem (cmd : Byte) (fe : Bool) (feat : BitVec 3) (ple : Bool) (s : State) :
    (encodeFrame cmd fe feat ple s).crcRem = trailer (s.frameWith s.nextNonce cmd fe feat ple) := rfl

theorem encodeFrame_status (cmd : Byte) (fe : Bool) (feat : BitVec 3) (ple : Bool) (s : State) :
    (encodeFrame cmd fe feat ple s).status = setBit s.status StatusFlag.lightTx.bit (isLighting cmd fe) := rfl

@[simp] theorem encodeFrame_flag (cmd : Byte) (fe : Bool) (feat : BitVec 3) (ple : Bool) (s : State) (f : StatusFlag) :
    (encodeFrame cmd fe feat ple s).flag f = if f = .lightTx then isLighting cmd fe else s.flag f :=
  State.flag_putFlag _ _ _ _

section
variable (cmd : Byte) (fe : Bool) (feat : BitVec 3) (ple : Bool) (s : State)
@[simp] theorem encodeFrame_arg0 : (encodeFrame cmd fe feat ple s).arg0 = s.arg0 := rfl
@[simp] theorem encodeFrame_arg1 : (encodeFrame cmd fe feat ple s).arg1 = s.arg1 := rfl
@[simp] theorem encodeFrame_arg2 : (encodeFrame cmd fe feat ple s).arg2 = s.arg2 := rfl
@[simp] theorem encodeFrame_opcode : (encodeFrame cmd fe feat ple s).opcode = s.opcode := rfl
@[simp] theorem encodeFrame_errcode : (encodeFrame cmd fe feat ple s).errcode = s.errcode := rfl
@[simp] theorem encodeFrame_tlm : (encodeFrame cmd fe feat ple s).tlm = s.tlm := rfl
@[simp] theorem encodeFrame_draws : (encodeFrame cmd fe feat ple s).draws = s.draws + 1 := rfl
@[simp] theorem encodeFrame_host : (encodeFrame cmd fe feat ple s).host = s.host := rfl
end

/-- A frame `encode_frame` builds is valid, whatever the nonce and the payload (R126). -/
theorem frameValid_frameBytes (n cmd : Byte) (fe : Bool) (feat : BitVec 3) (pl : List Byte) (h : pl.length = 60) :
    frameValid (frameBytes n cmd fe feat pl) = true := by
  rw [frameValid, checkedRange_frameBytes _ _ _ _ _ h, trailer_frameBytes _ _ _ _ _ h]; simp

/-- `validate_rx` writes CRC_REM, CHK_VALID and CHK_MISMATCH and nothing else (R124). -/
theorem validateRx_eq (s : State) :
    validateRx s = { s with
      crcRem := s.rxChecksum
      status := setBit (setBit s.status StatusFlag.chkValid.bit s.rxValid) StatusFlag.chkMismatch.bit (!s.rxValid) } :=
  rfl

section
variable (s : State)
@[simp] theorem validateRx_arg0 : (validateRx s).arg0 = s.arg0 := rfl
@[simp] theorem validateRx_arg1 : (validateRx s).arg1 = s.arg1 := rfl
@[simp] theorem validateRx_arg2 : (validateRx s).arg2 = s.arg2 := rfl
@[simp] theorem validateRx_opcode : (validateRx s).opcode = s.opcode := rfl
@[simp] theorem validateRx_errcode : (validateRx s).errcode = s.errcode := rfl
@[simp] theorem validateRx_crcRem : (validateRx s).crcRem = s.rxChecksum := rfl
@[simp] theorem validateRx_tlm : (validateRx s).tlm = s.tlm := rfl
@[simp] theorem validateRx_mem : (validateRx s).mem = s.mem := rfl
@[simp] theorem validateRx_draws : (validateRx s).draws = s.draws := rfl
@[simp] theorem validateRx_host : (validateRx s).host = s.host := rfl
@[simp] theorem validateRx_flag (f : StatusFlag) : (validateRx s).flag f =
    if f = .chkMismatch then !s.rxValid else if f = .chkValid then s.rxValid else s.flag f := by
  simp [validateRx]
end

/-- Buffer reads look at memory alone. -/
theorem State.byte_of_mem {s t : State} (h : t.mem = s.mem) (b : Buffer) (k : Nat) : t.byte b k = s.byte b k := by
  simp [State.byte, h]

theorem State.bytes_of_mem {s t : State} (h : t.mem = s.mem) (b : Buffer) : t.bytes b = s.bytes b := by
  simp [State.bytes, h]

@[simp] theorem finish_byte (c : ErrCode) (s : State) (b : Buffer) (k : Nat) : (finish c s).byte b k = s.byte b k :=
  State.byte_of_mem (finish_mem s c) b k

@[simp] theorem finish_bytes (c : ErrCode) (s : State) (b : Buffer) : (finish c s).bytes b = s.bytes b :=
  State.bytes_of_mem (finish_mem s c) b

theorem State.ledColors_length (s : State) : s.ledColors.length = 16 := by simp [State.ledColors, Config.ledCount]

end Sys2Proof.Machine
end

