-- ==== Sys2Proof/Laws/Frames.lean ====
section
/-! SUPPORT. What each update and each shared operation leaves alone, as `KeepsAllBut`. -/

namespace Sys2Proof.Machine

theorem KeepsAllBut.refl (fs : List StatusFlag) (bs : List Buffer) (s : State) : KeepsAllBut fs bs s s :=
  ⟨rfl, rfl, rfl, rfl, rfl, fun _ _ _ => rfl, fun _ _ => rfl⟩

theorem KeepsAllBut.trans {fs : List StatusFlag} {bs : List Buffer} {s t u : State} (h : KeepsAllBut fs bs s t)
    (k : KeepsAllBut fs bs t u) : KeepsAllBut fs bs s u where
  arg0 := k.arg0.trans h.arg0
  arg1 := k.arg1.trans h.arg1
  arg2 := k.arg2.trans h.arg2
  opcode := k.opcode.trans h.opcode
  host := k.host.trans h.host
  status j hj hf := (k.status j hj hf).trans (h.status j hj hf)
  mem a ha := (k.mem a ha).trans (h.mem a ha)

theorem KeepsAllBut.putCrc (fs : List StatusFlag) (bs : List Buffer) (s : State) (c : Byte) :
    KeepsAllBut fs bs s (s.putCrc c) := ⟨rfl, rfl, rfl, rfl, rfl, fun _ _ _ => rfl, fun _ _ => rfl⟩

theorem KeepsAllBut.putTlm (fs : List StatusFlag) (bs : List Buffer) (s : State) (t : Telemetry) :
    KeepsAllBut fs bs s (s.putTlm t) := ⟨rfl, rfl, rfl, rfl, rfl, fun _ _ _ => rfl, fun _ _ => rfl⟩

theorem KeepsAllBut.afterDraw (fs : List StatusFlag) (bs : List Buffer) (s : State) :
    KeepsAllBut fs bs s s.afterDraw := ⟨rfl, rfl, rfl, rfl, rfl, fun _ _ _ => rfl, fun _ _ => rfl⟩

theorem KeepsAllBut.putFlag {fs : List StatusFlag} (bs : List Buffer) (s : State) {f : StatusFlag} (b : Bool)
    (hf : f ∈ fs) : KeepsAllBut fs bs s (s.putFlag f b) where
  arg0 := rfl
  arg1 := rfl
  arg2 := rfl
  opcode := rfl
  host := rfl
  status k hk h := by rw [State.putFlag_status, getLsbD_setBit _ _ _ _ hk, if_neg fun e => h f hf e.symm]
  mem _ _ := rfl

theorem KeepsAllBut.store (fs : List StatusFlag) {bs : List Buffer} (s : State) {b : Buffer} {vs : List Byte}
    (hb : b ∈ bs) (hl : vs.length = b.size) : KeepsAllBut fs bs s (s.store b vs) where
  arg0 := rfl
  arg1 := rfl
  arg2 := rfl
  opcode := rfl
  host := rfl
  status _ _ _ := rfl
  mem a h := by rw [State.store_mem, Memory.read_writeBytes, hl, if_neg (h b hb)]

theorem KeepsAllBut.finish {fs : List StatusFlag} (bs : List Buffer) (s : State) (c : ErrCode)
    (h : c = .none ∨ .stickyErr ∈ fs) : KeepsAllBut fs bs s (finish c s) where
  arg0 := by simp
  arg1 := by simp
  arg2 := by simp
  opcode := by simp
  host := by simp
  status k hk hf := by
    rcases h with rfl | h
    · rfl
    · exact finish_status_bit c s k hk fun e => hf _ h e.symm
  mem a _ := by simp

/-- `encode_frame` writes TX_BUF and LIGHT_TX (R121). -/
theorem KeepsAllBut.encodeFrame {fs : List StatusFlag} {bs : List Buffer} (cmd : Byte) (fe : Bool) (feat : BitVec 3)
    (ple : Bool) (s : State) (hf : .lightTx ∈ fs) (hb : .tx ∈ bs) :
    KeepsAllBut fs bs s (encodeFrame cmd fe feat ple s) :=
  ((KeepsAllBut.afterDraw fs bs s).trans
    (KeepsAllBut.store fs s.afterDraw hb (State.frameWith_length _ _ _ _ _ _))).trans
    ((KeepsAllBut.putCrc fs bs _ _).trans (KeepsAllBut.putFlag bs _ _ hf))

/-- `validate_rx` writes the CHK flags (R124). -/
theorem KeepsAllBut.validateRx {fs : List StatusFlag} (bs : List Buffer) (s : State) (h₁ : .chkValid ∈ fs)
    (h₂ : .chkMismatch ∈ fs) : KeepsAllBut fs bs s (validateRx s) :=
  (KeepsAllBut.putCrc fs bs s _).trans ((KeepsAllBut.putFlag bs _ _ h₁).trans (KeepsAllBut.putFlag bs _ _ h₂))

/-- What is kept with fewer flags and buffers excepted is kept with more. -/
theorem KeepsAllBut.mono {fs fs' : List StatusFlag} {bs bs' : List Buffer} {s t : State} (h : KeepsAllBut fs bs s t)
    (hf : fs ⊆ fs') (hb : bs ⊆ bs') : KeepsAllBut fs' bs' s t :=
  { h with
    status := fun k hk h' => h.status k hk fun f hf' => h' f (hf hf')
    mem := fun a h' => h.mem a fun b hb' => h' b (hb hb') }

/-- The bytes summed by `bufferSum` are a slice of the buffer (R102, R107). -/
theorem bufferSum_eq_slice (s : State) (b : Buffer) (start len : Nat) (h : start + len ≤ b.size) :
    bufferSum s b start len = crc8 (((s.bytes b).drop start).take len) := by
  rw [bufferSum, State.bytes_eq_map]
  congr 1
  apply List.ext_getElem
  · simp; omega
  · intro k h₁ h₂; simp

/-- RX_BUF's checksum, as `validate_rx` computes it (R124). -/
theorem rxChecksum_eq_bufferSum (s : State) : s.rxChecksum = bufferSum s .rx 1 62 :=
  (bufferSum_eq_slice s .rx 1 62 (by decide)).symm

/-- `validate_rx` answers true exactly where the checksum matches (R123, R124). -/
theorem rxValid_iff (s : State) : s.rxValid = true ↔ rxMatches s := by
  have e : trailer (s.bytes .rx) = s.byte .rx 63 := by simp [trailer, State.bytes_eq_map, Buffer.size]
  have h := rxChecksum_eq_bufferSum s
  unfold State.rxChecksum at h
  simp only [State.rxValid, frameValid, e, rxMatches, ← h, beq_iff_eq]

end Sys2Proof.Machine
end

