-- ==== Sys2Proof/Laws/Host.lean ====
section
/-! SUPPORT. The host's duties (rules R213, R214, R218): what its tests on a frame's bytes mean, and what handing over a
frame and noting a response byte can do. -/

namespace Sys2Proof.Machine

/-- A byte of a buffer, read out of the list of its bytes. -/
theorem State.getD_bytes (s : State) (b : Buffer) (k : Nat) (h : k < b.size) : (s.bytes b).getD k 0 = s.byte b k := by
  simp [State.bytes_eq_map, h]

theorem isCoolingFrame_iff (s : State) : isCoolingFrame (s.bytes .tx) = true ↔ HoldsCooling s := by
  simp only [isCoolingFrame, HoldsCooling, Bool.and_eq_true, beq_iff_eq, s.getD_bytes .tx 1 (by decide),
    s.getD_bytes .tx 2 (by decide), Config.cmdCfg]

/-- Every fan offset lies in the payload (R143). -/
theorem fanOffsets_lt : ∀ o ∈ fanOffsets, o < 60 := by
  have h := fanModeOfs_ok
  simp only [Config.fanOfsOk, Bool.and_eq_true, decide_eq_true_eq] at h
  intro o ho
  simp only [fanOffsets, Config.fanDutyDelta, List.mem_cons, List.not_mem_nil, or_false] at ho
  omega

theorem isFanWrite_iff (s : State) : isFanWrite (s.bytes .tx) = true ↔ HoldsFanWrite s := by
  rw [isFanWrite, Bool.and_eq_true, isCoolingFrame_iff, HoldsFanWrite, List.any_eq_true]
  refine and_congr_right fun _ => exists_congr fun o => and_congr_right fun ho => ?_
  rw [s.getD_bytes .tx (3 + o) (by have := fanOffsets_lt o ho; simp only [Buffer.size]; omega), bne_iff_ne]

theorem eq_tlmRequest_iff (s : State) : s.bytes .tx = tlmRequest ↔ HoldsTlmRequest s := by
  have hz : ∀ k, 2 ≤ k → k < 63 → tlmRequest.getD k 0 = 0 := by
    intro k h₁ h₂
    obtain ⟨j, rfl⟩ := Nat.exists_eq_add_of_le' h₁
    simp only [tlmRequest, zeros, List.getD_eq_getElem?_getD, List.cons_append, List.nil_append,
      List.getElem?_cons_succ]
    rw [List.getElem?_append_left (by simp; omega), List.getElem?_replicate, if_pos (by omega)]
    rfl
  constructor
  · intro h
    have g : ∀ k, k < 64 → s.byte .tx k = tlmRequest.getD k 0 := fun k hk => by rw [← h, s.getD_bytes .tx k hk]
    exact ⟨g 0 (by decide), g 1 (by decide), fun k h₁ h₂ => (g k (by omega)).trans (hz k h₁ h₂), g 63 (by decide)⟩
  · rintro ⟨h0, h1, h2, h3⟩
    apply List.ext_getElem
    · simp [tlmRequest, Buffer.size]
    · intro k hk hk'
      have e : tlmRequest[k] = tlmRequest.getD k 0 := by simp [List.getD_eq_getElem?_getD, hk']
      have hk : k < 64 := by simpa [Buffer.size] using hk
      rw [e]
      simp only [State.bytes_eq_map, List.getElem_map, List.getElem_range]
      by_cases c0 : k = 0
      · subst c0; exact h0
      by_cases c1 : k = 1
      · subst c1; exact h1
      by_cases c3 : k = 63
      · subst c3; exact h3
      · rw [h2 k (by omega) (by omega), hz k (by omega) (by omega)]

/-- The telemetry request is no cooling write. -/
theorem isCoolingFrame_tlmRequest : isCoolingFrame tlmRequest = false := by decide

/-- When the host may hand over TX_BUF as far as the pump mode goes (R214). -/
theorem mayHandOver_iff (s : State) : s.host.mayHandOver (s.bytes .tx) = true ↔
    (HoldsFanWrite s → s.host.learntMode = some (s.byte .tx 23)) := by
  rw [HostSide.mayHandOver, embeddedMode, s.getD_bytes .tx 23 (by decide), ← isFanWrite_iff]
  cases isFanWrite (s.bytes .tx) <;> simp

/-- All that `xmit` can do: one of the two broken duties, or the hand-over (R213, R214, R222). -/
theorem transmit_cases (s : State) :
    (0 < s.host.settle ∧ transmit s = .fault .settleTimeBroken) ∨
    (s.host.settle = 0 ∧ HoldsFanWrite s ∧ s.host.learntMode ≠ some (s.byte .tx 23) ∧
      transmit s = .fault .stalePumpMode) ∨
    (s.host.settle = 0 ∧ (HoldsFanWrite s → s.host.learntMode = some (s.byte .tx 23)) ∧
      transmit s = .next s.handOver) := by
  unfold transmit
  by_cases h : s.host.settle = 0
  · rw [if_neg (not_not_intro h)]
    by_cases hm : s.host.mayHandOver (s.bytes .tx) = true
    · exact .inr (.inr ⟨h, (mayHandOver_iff s).1 hm, if_pos hm⟩)
    · have hd := mt (mayHandOver_iff s).2 hm
      exact .inr (.inl ⟨h, Classical.byContradiction fun c => hd fun a => (c a).elim, fun e => hd fun _ => e,
        if_neg hm⟩)
  · exact .inl ⟨Nat.pos_of_ne_zero h, if_pos h⟩

/-- All that noting response byte `k` can do (R214, R218): nothing, one byte fewer awaited, or the response whole. -/
theorem State.noteResponse_cases (s : State) (k : Nat) :
    (s.host.awaited = none ∧ s.noteResponse k = s) ∨
    (∃ ks, s.host.awaited = some ks ∧ (∃ j ∈ ks, j ≠ k) ∧
      s.noteResponse k = { s with host := { s.host with awaited := some (ks.filter (· != k)) } }) ∨
    (∃ ks, s.host.awaited = some ks ∧ (∀ j ∈ ks, j = k) ∧
      s.noteResponse k = { s with host := { s.host with
        awaited := none
        learntMode := if s.rxValid then some (pumpModeDecode (s.byte .rx 24)) else s.host.learntMode } }) := by
  unfold State.noteResponse
  cases h : s.host.awaited with
  | none => exact .inl ⟨rfl, rfl⟩
  | some ks =>
    by_cases hk : ks.all (· == k) = true
    · exact .inr (.inr ⟨ks, rfl, by simpa using hk, if_pos hk⟩)
    · exact .inr (.inl ⟨ks, rfl, by simpa using hk, if_neg hk⟩)

end Sys2Proof.Machine
end

