-- ==== Sys2Proof/Laws/PerInstr.lean ====
section
/-! SUPPORT. The per-instruction family TableWord: an operation's command word, numbered as the opcode table numbers
it, read back by the decoder. -/

namespace Sys2Proof.Laws.TableWord

/-- The command word of `i` has the row's opcode in bits [31:24], and the decoder reads the word as `i` (R70, R75). -/
def Statement (i : Instr) : Prop :=
  (encodeWord i).extractLsb' 24 8 = opcodeOf i ∧ decodeTableWord 32 (encodeWord i).toNat = some i

theorem of_decodeOp {i : Instr}
    (h : decodeOp (operandsOf i).1 (operandsOf i).2.1 (operandsOf i).2.2 (opcodeOf i) = .ok i) : Statement i :=
  ⟨opcode_encodeWord i, by rw [decodeTableWord_encodeWord, h]; rfl⟩

theorem nop : Statement .nop := of_decodeOp rfl
theorem crcInit : Statement .crcInit := of_decodeOp rfl
theorem crcByte (data : Byte) : Statement (.crcByte data) := of_decodeOp rfl
theorem crcRound : Statement .crcRound := of_decodeOp rfl
theorem crcBuf (sel start len : Byte) : Statement (.crcBuf sel start len) := of_decodeOp rfl
theorem clrErr : Statement .clrErr := of_decodeOp rfl
theorem frameEncode (cmd : Byte) (featEn : Bool) (rsvA1 : BitVec 4) (feat : BitVec 3) (rsvA2 : BitVec 7)
    (plEn : Bool) : Statement (.frameEncode cmd featEn rsvA1 feat rsvA2 plEn) :=
  of_decodeOp (congrArg _ (decodeFrameEncode_fields cmd featEn rsvA1 feat rsvA2 plEn))
theorem frameValidate : Statement .frameValidate := of_decodeOp rfl
theorem plClear : Statement .plClear := of_decodeOp rfl
theorem plLight : Statement .plLight := of_decodeOp rfl
theorem plLightSolid (red green blue : Byte) : Statement (.plLightSolid red green blue) := of_decodeOp rfl
theorem plFan (pct mode : Byte) : Statement (.plFan pct mode) := of_decodeOp rfl
theorem plPump (mode : Byte) : Statement (.plPump mode) := of_decodeOp rfl
theorem tlmDecode : Statement .tlmDecode := of_decodeOp rfl
theorem txTlmReq : Statement .txTlmReq := of_decodeOp rfl
theorem txLight : Statement .txLight := of_decodeOp rfl
theorem txLightSolid (red green blue : Byte) : Statement (.txLightSolid red green blue) := of_decodeOp rfl
theorem txFan (pct mode : Byte) : Statement (.txFan pct mode) := of_decodeOp rfl
theorem txFanKeep (pct : Byte) : Statement (.txFanKeep pct) := of_decodeOp rfl
theorem txPump (mode : Byte) : Statement (.txPump mode) := of_decodeOp rfl

end Sys2Proof.Laws.TableWord
end

