-- ==== Sys2Proof/Tests/Slice0.lean ====
section
/-! SUPPORT. Tests of the model, each expected result taken from the spec's examples and vectors, and a witness for the
hypotheses of each obligation. -/

namespace Sys2Proof.Tests

set_option Elab.async false

open Sys2Proof Sys2Proof.Machine

/-! ### Helpers -/

/-- `n` bytes, all 0x00 but those listed: 95_test_vectors.md's "nz:" notation. -/
def nz (n : Nat) (l : List (Nat × Byte)) : List Byte := l.foldl (fun bs c => bs.set c.1 c.2) (List.replicate n 0)

/-- The bytes 1, 2, ..., n. -/
def countUp (n : Nat) : List Byte := (List.range n).map fun k => BitVec.ofNat 8 (k + 1)

/-- The cooling header, pump mode and marker at frame offset `o` of payload offset 0. -/
def header (o : Nat) : List (Nat × Byte) :=
  [(o + 1, 0xFF), (o + 2, 0x05), (o + 3, 0xFF), (o + 4, 0xFF), (o + 5, 0xFF), (o + 6, 0xFF), (o + 7, 0xFF)]

/-- The reset state with a buffer written. -/
def withBuf (b : Buffer) (bs : List Byte) : State := State.reset.store b bs

/-- The reset state with host events to come. -/
def ahead (es : List HostEvent) : State :=
  { State.reset with host := { State.reset.host with pending := es } }

/-- A field of the next state an outcome gives. -/
def get {α : Type} (f : State → α) : Host.Outcome State Fault Refusal → Option α
  | .next t => some (f t)
  | .fault _ => none
  | .refused _ => none

/-- ERRCODE, STATUS and CRC_REM. -/
def outcome (t : State) : Byte × Byte × Byte := (t.errcode, t.status, t.crcRem)

/-! ### Well-formedness: an ill-formed operation for each check -/

theorem test_illformed_sel : (Instr.crcBuf 4 0 0).wellFormed = false := by decide
theorem test_illformed_range : (Instr.crcBuf 2 1 60).wellFormed = false := by decide
theorem test_wellformed_empty_range_at_end : (Instr.crcBuf 0 64 0).wellFormed = true := by decide
theorem test_illformed_rsvA1 : (Instr.frameEncode 0x14 false 1 0 0 false).wellFormed = false := by decide
theorem test_illformed_rsvA2 : (Instr.frameEncode 0x14 false 0 0 1 false).wellFormed = false := by decide
theorem test_illformed_plFan : (Instr.plFan 50 3).wellFormed = false := by decide
theorem test_illformed_plPump : (Instr.plPump 3).wellFormed = false := by decide
theorem test_illformed_txFan : (Instr.txFan 50 3).wellFormed = false := by decide
theorem test_illformed_txPump : (Instr.txPump 0xFF).wellFormed = false := by decide

/-! ### Decoding: each row's word, written out as OPCODE, a2, a1, a0 (R70, R75) -/

theorem test_decode_nop : decodeTableWord 32 0b00000000_10101010_01010101_11111111 = some .nop := by decide
theorem test_decode_crcInit : decodeTableWord 32 0b00000001_00000000_00000000_00000000 = some .crcInit := by decide
theorem test_decode_crcByte : decodeTableWord 32 0b00000010_11110000_00001111_00110001 = some (.crcByte 0x31) := by
  decide
theorem test_decode_crcRound : decodeTableWord 32 0b00000011_00000000_00000000_00000000 = some .crcRound := by decide
theorem test_decode_crcBuf :
    decodeTableWord 32 0b00000100_00111100_00000001_00000010 = some (.crcBuf 2 1 60) := by decide
theorem test_decode_clrErr : decodeTableWord 32 0b00001111_00000000_00000000_00000000 = some .clrErr := by decide
theorem test_decode_frameEncode : decodeTableWord 32 0b00010000_00000001_10000111_00010100 =
    some (.frameEncode 0x14 true 0 7 0 true) := by decide
theorem test_decode_frameEncode_reserved : decodeTableWord 32 0b00010000_10000010_01001000_11111111 =
    some (.frameEncode 0xFF false 0b1001 0 0b1000001 false) := by decide
theorem test_decode_frameValidate :
    decodeTableWord 32 0b00010001_00000000_00000000_00000000 = some .frameValidate := by decide
theorem test_decode_plClear : decodeTableWord 32 0b00100000_00000000_00000000_00000000 = some .plClear := by decide
theorem test_decode_plLight : decodeTableWord 32 0b00100001_00000000_00000000_00000000 = some .plLight := by decide
theorem test_decode_plLightSolid :
    decodeTableWord 32 0b00100010_00110011_00100010_00010001 = some (.plLightSolid 0x11 0x22 0x33) := by decide
theorem test_decode_plFan : decodeTableWord 32 0b00100011_11111111_00000001_00110010 = some (.plFan 50 1) := by decide
theorem test_decode_plPump : decodeTableWord 32 0b00100100_11111111_11111111_00000010 = some (.plPump 2) := by decide
theorem test_decode_tlmDecode : decodeTableWord 32 0b00110000_00000000_00000000_00000000 = some .tlmDecode := by decide
theorem test_decode_txTlmReq : decodeTableWord 32 0b01000000_00000000_00000000_00000000 = some .txTlmReq := by decide
theorem test_decode_txLight : decodeTableWord 32 0b01000001_00000000_00000000_00000000 = some .txLight := by decide
theorem test_decode_txLightSolid :
    decodeTableWord 32 0b01000010_00110011_00100010_00010001 = some (.txLightSolid 0x11 0x22 0x33) := by decide
theorem test_decode_txFan : decodeTableWord 32 0b01000011_11111111_00000001_00110010 = some (.txFan 50 1) := by decide
theorem test_decode_txFanKeep :
    decodeTableWord 32 0b01000100_11111111_11111111_00011110 = some (.txFanKeep 30) := by decide
theorem test_decode_txPump : decodeTableWord 32 0b01000101_11111111_11111111_00000010 = some (.txPump 2) := by decide
theorem test_decode_undefined : decode [0, 0, 0, 0x05] = .error (.badOpcode 0x05) := by rfl
theorem test_decode_truncated : decode [0, 0, 0x01] = .error .truncated := by rfl
theorem test_encode_word : encodeWord (.frameEncode 0x14 true 0 0 0 true) = 0x10018014 := by decide

/-! ### The checksum (95_test_vectors.md section 2.1) -/

theorem test_crc_round_vectors : [0x00#8, 0x01, 0x31, 0x40, 0x7F, 0x80, 0x81, 0xC0, 0xFF].map crcRound =
    [0x00, 0x02, 0x62, 0x80, 0xFE, 0x07, 0x05, 0x87, 0xF9] := by decide +kernel
theorem test_crc_step : crcStep 0x00 0x31 = 0x97 := by decide +kernel
theorem test_crc_check_value : crc8 [0x31, 0x32, 0x33, 0x34, 0x35, 0x36, 0x37, 0x38, 0x39] = 0xF4 := by decide +kernel
theorem test_crc_two_bytes : crc8 [0x01, 0x02] = 0x1B := by decide +kernel

/-! ### Control and CRC operations -/

theorem test_nop_keeps_sticky :
    get outcome (exec .nop { State.reset with errcode := 4, status := 0x12 }) = some (0, 0x12, 0) := by decide
theorem test_clrErr_keeps_mismatch :
    get outcome (exec .clrErr { State.reset with errcode := 4, status := 0x12 }) = some (0, 0x02, 0) := by decide
theorem test_crcInit : get outcome (exec .crcInit { State.reset with crcRem := 0xF4 }) = some (0, 0, 0) := by decide
theorem test_crcByte : get outcome (exec (.crcByte 0x31) State.reset) = some (0, 0, 0x97) := by decide +kernel
theorem test_crcByte_own_remainder :
    get outcome (exec (.crcByte 0x97) { State.reset with crcRem := 0x97 }) = some (0, 0, 0) := by decide +kernel
theorem test_crcRound : get outcome (exec .crcRound { State.reset with crcRem := 0x80 }) = some (0, 0, 0x07) := by
  decide +kernel
theorem test_crcBuf_led :
    get outcome (exec (.crcBuf 3 0 48) (withBuf .led (countUp 48))) = some (0, 0, 0xDE) := by decide +kernel
theorem test_crcBuf_errors :
    (get outcome (exec (.crcBuf 4 0 0) { State.reset with crcRem := 0x55 }),
      get outcome (exec (.crcBuf 2 1 60) { State.reset with crcRem := 0x55 })) =
    (some (2, 0x10, 0x55), some (3, 0x10, 0x55)) := by decide +kernel

/-! ### Frames: the vectors of section 2.3, each with the nonce it names -/

theorem test_frame_forms :
    [frameBytes 0xF8 0x14 true 0 (countUp 60), frameBytes 0xF8 0x14 false 0 (countUp 60),
      frameBytes 0x08 0x14 false 7 (zeros 60), frameBytes 0x08 0x14 true 7 (zeros 60)] =
    [[0x3F, 0xF8, 0x14] ++ countUp 60 ++ [0xCB], [0x3F, 0xFC] ++ countUp 60 ++ [0x00, 0x1E],
      nz 64 [(0, 0x3F), (1, 0x1C), (63, 0xC2)], nz 64 [(0, 0x3F), (1, 0x0F), (2, 0x14), (63, 0x53)]] := by
  decide +kernel
theorem test_encode_frame_lighting :
    (fun t : State => (t.bytes .tx, t.crcRem, t.status)) (encodeFrameWith 0x08 0x04 false 0 false State.reset) =
    (nz 64 [(0, 0x3F), (1, 0x0C), (63, 0x1B)], 0x1B, 0x08) := by decide +kernel
theorem test_frameEncode_reserved_bit :
    get outcome (exec (.frameEncode 0x14 false 1 0 0 false) State.reset) = some (2, 0x10, 0) := by decide +kernel

/-- The Form B frame of section 2.3, as the host copies it into RX_BUF. -/
def formB : List Byte := [0x3F, 0xF8, 0x14] ++ countUp 60 ++ [0xCB]

theorem test_frameValidate_byte0_unchecked :
    get outcome (exec .frameValidate (withBuf .rx (formB.set 0 0x00))) = some (0, 0x01, 0xCB) := by decide +kernel
theorem test_frameValidate_mismatch :
    get outcome (exec .frameValidate (withBuf .rx (formB.set 10 0x09))) = some (4, 0x12, 0xD2) := by decide +kernel

/-! ### Payloads and subsystem writes: section 2.4 -/

theorem test_dutyByte : [0, 1, 10, 30, 50, 70, 90, 99, 100, 101, 255].map dutyByte =
    [0, 3, 26, 77, 128, 179, 230, 252, 255, 255, 255] := by decide +kernel
theorem test_plClear : get (fun t => t.byte .payload 5) (exec .plClear (withBuf .payload (nz 60 [(5, 0xAA)]))) =
    some 0x00 := by decide +kernel
theorem test_plLight : get (fun t => t.bytes .payload) (exec .plLight (withBuf .led [0x11, 0x22, 0x33])) =
    some (nz 60 [(1, 0x22), (2, 0x11), (3, 0x33)]) := by decide +kernel
theorem test_plLight_then_crcBuf : crc8 (lightPayload (withBuf .led (countUp 48)).ledColors) = 0x90 := by decide +kernel
theorem test_plLightSolid : get (fun t => (t.byte .payload 0, t.byte .payload 2, t.byte .payload 47, t.byte .payload 50))
    (exec (.plLightSolid 0xFF 0 0) State.reset) = some (0, 0xFF, 0xFF, 0) := by decide +kernel
theorem test_fan_layout_candidate : fanLayoutAt 8 14 50 1 =
    nz 60 (header 0 ++ [(8, 0x02), (13, 0x80), (14, 0x02), (19, 0x80), (20, 0x01), (26, 0x07)]) := by decide +kernel
theorem test_plFan_bad_mode : get outcome (exec (.plFan 50 3) State.reset) = some (2, 0x10, 0) := by decide +kernel
theorem test_plPump : get (fun t => t.bytes .payload) (exec (.plPump 2) State.reset) =
    some (nz 60 (header 0 ++ [(20, 0x02), (26, 0x07)])) := by decide +kernel
theorem test_plPump_bad_mode : get outcome (exec (.plPump 3) State.reset) = some (2, 0x10, 0) := by decide +kernel
theorem test_light_frame : frameBytes 0x28 0x04 false 0 (lightPayload (withBuf .led
      (nz 48 [(0, 0x11), (1, 0x22), (2, 0x33), (45, 0xAA), (46, 0xBB), (47, 0xCC)])).ledColors) =
    nz 64 [(0, 0x3F), (1, 0x2C), (3, 0x22), (4, 0x11), (5, 0x33), (48, 0xBB), (49, 0xAA), (50, 0xCC), (63, 0x10)] := by
  decide +kernel
theorem test_light_solid_frame : (frameBytes 0x20 0x04 false 0 (lightPayload (solidColors 0xFF 0 0))).getD 63 0 = 0x63 := by
  decide +kernel
theorem test_fan_frame : frameBytes 0x18 0x14 true 0 (fanLayoutAt 8 14 50 1) =
    nz 64 ([(0, 0x3F), (1, 0x18), (2, 0x14)] ++ header 3 ++
      [(11, 0x02), (16, 0x80), (17, 0x02), (22, 0x80), (23, 0x01), (29, 0x07)]) := by decide +kernel
theorem test_pump_frame : frameBytes 0x18 0x14 true 0 (coolingBase 2) =
    nz 64 ([(0, 0x3F), (1, 0x18), (2, 0x14)] ++ header 3 ++ [(23, 0x02), (29, 0x07), (63, 0x5A)]) := by decide +kernel
theorem test_txFan_bad_mode : get outcome (exec (.txFan 50 3) State.reset) = some (2, 0x10, 0) := by decide +kernel
theorem test_txPump_bad_mode : get outcome (exec (.txPump 3) State.reset) = some (2, 0x10, 0) := by decide +kernel

/-- The response frame of program P2. -/
def rxP2 : List Byte := nz 64 [(0, 0x3F), (1, 0x08), (2, 0x12), (3, 0x07), (7, 0x80), (8, 0x1E), (14, 0x80), (15, 0x5A),
  (16, 0x04), (21, 0x40), (22, 0x10), (23, 0x05), (24, 0x05), (28, 0xCC), (63, 0x6B)]

/-- P3: what TX_FAN_KEEP 50 builds on that response, with nonce 0x10 and the candidate offsets. -/
theorem test_fan_keep_frame :
    (frameBytes 0x10 0x14 true 0 (fanLayoutAt 8 14 50 (pumpModeDecode (rxP2.getD 24 0)))).getD 63 0 = 0xEF := by
  decide +kernel
/-- P4: on the corrupted response TX_FAN_KEEP writes neither PAYLOAD nor TX_BUF. -/
theorem test_txFanKeep_mismatch : get (fun t => (outcome t, t.mem))
      (exec (.txFanKeep 50) (withBuf .rx (rxP2.set 8 0x1F))) =
    some ((4, 0x12, 0x81), (withBuf .rx (rxP2.set 8 0x1F)).mem) := by decide +kernel

/-! ### Telemetry: section 2.5, programs P2 and P4 -/

theorem test_request_frame : frameBytes 0xA8 0xFF false 0 (zeros 60) = nz 64 [(0, 0x3F), (1, 0xFF), (63, 0x87)] := by
  decide +kernel
theorem test_tlmDecode_P2 : get (fun t => (outcome t, t.tlm)) (exec .tlmDecode (withBuf .rx rxP2)) =
    some ((0, 0x05, 0x6B),
      { fwMajor := 0x01, fwMinor := 0x02, fwPatch := 0x07, tempFrac := 0x80, tempInt := 0x1E, pumpDuty := 0xCC,
        pumpMode := 0x01, pumpModeRaw := 0x05, fan1RpmLo := 0x5A, fan1RpmHi := 0x04, fan1Duty := 0x80,
        fan2RpmLo := 0x10, fan2RpmHi := 0x05, fan2Duty := 0x40 }) := by decide +kernel
theorem test_tlmDecode_P4 : get (fun t => (outcome t, t.tlm))
      (exec .tlmDecode { withBuf .rx (rxP2.set 8 0x1F) with tlm := { Telemetry.zero with fwMajor := 1 }, status := 0x04 }) =
    some ((4, 0x12, 0x81), Telemetry.zero) := by decide +kernel
theorem test_firmware_text : firmwareText { Telemetry.zero with fwMajor := 15, fwMinor := 15, fwPatch := 255 } =
    ['1', '5', '.', '1', '5', '.', '2', '5', '5'] := by decide +kernel
theorem test_shown_temperature :
    [(0x1E, 0x80), (0x00, 0xFF), (0xFF, 0xFF), (0x19, 0x01)].map (fun p : Byte × Byte =>
      hundredths (liquidTemp { Telemetry.zero with tempInt := p.1, tempFrac := p.2 })) = [3050, 100, 25600, 2500] := by
  decide +kernel
theorem test_shown_duty : [0x00, 0x01, 0x02, 0x03, 0x33, 0x7F, 0x80, 0xCC, 0xFE, 0xFF].map (fun b : Byte =>
      hundredths (dutyPercent b)) = [0, 39, 78, 118, 2000, 4980, 5020, 8000, 9961, 10000] := by decide +kernel
theorem test_rpm : rpm 0x04 0x5A = 1114 := by decide

/-! ### Issue, the bus, reset and the host -/

theorem test_issue_undefined : get (fun t => (t.opcode, outcome t)) (step (ahead [.sb 0x003 0x99])) =
    some (0x99, (1, 0x10, 0)) := by decide +kernel
theorem test_issue_samples_operands : get (fun t => (t.crcRem, t.arg0))
    (step { ahead [.sb 0x003 0x02] with arg0 := 0x31 }) = some (0x97, 0x31) := by decide +kernel
theorem test_fetch_word : get outcome (step (State.reset.withFetchWord 32 0x02000031)) = some (0, 0, 0x97) := by
  decide +kernel
theorem test_tx_read_only : get (fun t => t.mem) (step (ahead [.sb 0x040 0x3F])) = some [] := by decide +kernel
theorem test_led_write : get (fun t => t.mem) (step (ahead [.sb 0x12F 0xCC])) = some [(0x12F, 0xCC)] := by decide +kernel
theorem test_reset_input : get (fun t => (t.mem, t.status, t.draws))
    (step { ahead [.reset] with mem := [(0x100, 1)], status := 0x1F, draws := 3 }) = some ([], 0, 3) := by decide +kernel
/-- P1, then the response of P2: the request starts the wait, the last byte written teaches Balanced. -/
theorem test_request_awaits_response : get (fun t => t.host.awaited)
    (transmit (withBuf .tx (nz 64 [(0, 0x3F), (1, 0xFF), (63, 0x87)]))) = some (some (List.range 64)) := by decide +kernel
theorem test_response_learnt : get (fun t => (t.host.awaited, t.host.learntMode))
    (step { withBuf .rx (rxP2.set 63 0x00) with
      host := { State.reset.host with pending := [.sb 0x0BF 0x6B], awaited := some [63] } }) =
    some (none, some 0x01) := by decide +kernel
theorem test_issue_writes : issueInstr (.frameEncode 0x14 true 0 0 0 true) = encfStmt 0 0x14 true := by decide
theorem test_idle : step State.reset = .next State.reset := rfl

/-! ### Witnesses: states and operands that meet an obligation's hypotheses -/

/-- RX_BUF valid after reset (R211 (b)), and with a telemetry response (P2). -/
theorem witness_rxMatches : rxMatches State.reset ∧ rxMatches (withBuf .rx rxP2) := by decide +kernel
/-- RX_BUF not valid: checksum byte 0x01 over zeros. -/
theorem witness_not_rxMatches : ¬ rxMatches (withBuf .rx (nz 64 [(63, 0x01)])) := by decide +kernel

theorem witness_OpcodeMapIsTheTable_undefined :
    (0x05 : Byte) ∉ definedOpcodes ∧ (0x46 : Byte) ∉ definedOpcodes ∧ (0xFF : Byte) ∉ definedOpcodes := by decide
theorem witness_DecodedOperandsAreTheIssuedBytes :
    decodeOp 0xFF 0x78 0xFE 0x10 = .ok (.frameEncode 0xFF false 0xF 0 0x7F false) ∧
    (operandsUsed (.frameEncode 0xFF false 0xF 0 0x7F false)) = (true, true, true) := by decide +kernel
theorem witness_IssueRunsTheDecodedOperation :
    (ahead [.sb 0x003 0x23, .lb 0x004]).host.pending = .sb 0x003 0x23 :: [.lb 0x004] ∧
    decodeOp 0 0 0 0x23 = .ok (.plFan 0 0) := by decide
theorem witness_UndefinedOpcodeOnlyRecordsBadOpcode :
    (ahead [.sb 0x003 0x99]).host.pending = .sb 0x003 0x99 :: [] ∧ (0x99 : Byte) ∉ definedOpcodes := by decide
theorem witness_FetchWordRunsTheDecodedOperation :
    decodeTableWord 32 (commandWord 0x32 0x01 0x00 0x23).toNat = some (.plFan 50 1) := by decide +kernel
theorem witness_HostReadHasNoSideEffect : (ahead [.lb 0x040]).host.pending = .lb 0x040 :: [] := rfl
theorem witness_RegisterMapReadsEveryPlace_reserved : ∀ a ∈ [0x007#9, 0x013, 0x017, 0x03F, 0x0FC, 0x0FF, 0x130, 0x1FF],
    (a = 0x007 ∨ a = 0x013 ∨ (0x017 ≤ a ∧ a ≤ 0x03F) ∨ (0x0FC ≤ a ∧ a ≤ 0x0FF) ∨ 0x130 ≤ a) := by decide
/-- The ends of each ignored range, and no address both ignored and stored. -/
theorem witness_IgnoredWritesChangeNothing :
    (∀ a ∈ [0x004#9, 0x03F, 0x040, 0x07F, 0x0FC, 0x0FF, 0x130, 0x1FF],
      (ahead [.sb a 0xAA]).host.pending = .sb a 0xAA :: [] ∧
      ((0x004 ≤ a ∧ a ≤ 0x07F) ∨ (0x0FC ≤ a ∧ a ≤ 0x0FF) ∨ 0x130 ≤ a)) ∧
    ∀ a : Addr, ¬ (((0x004 ≤ a ∧ a ≤ 0x07F) ∨ (0x0FC ≤ a ∧ a ≤ 0x0FF) ∨ 0x130 ≤ a) ∧
      (a ≤ 0x002 ∨ (0x080 ≤ a ∧ a ≤ 0x0FB) ∨ (0x100 ≤ a ∧ a ≤ 0x12F))) := by decide +kernel
theorem witness_StoredWritesReachOneByte :
    ∀ a ∈ [0x000#9, 0x002, 0x080, 0x0BF, 0x0C0, 0x0FB, 0x100, 0x12F], (ahead [.sb a 0xAA]).host.pending = .sb a 0xAA :: [] ∧
      (a ≤ 0x002 ∨ (0x080 ≤ a ∧ a ≤ 0x0FB) ∨ (0x100 ≤ a ∧ a ≤ 0x12F)) := by decide +kernel
/-- An awaited response: its last byte, and one byte of two, at the ends of RX_BUF. -/
theorem witness_StoredWritesReachOneByte_response :
    (∀ k ∈ [63], 0x080 + k = (0x0BF : Addr).toNat) ∧ ¬ (∀ k ∈ [0, 63], 0x080 + k = (0x0BF : Addr).toNat) ∧
    (∀ k ∈ [0], 0x080 + k = (0x080 : Addr).toNat) ∧ (0x080 : Addr) ≤ 0x080 ∧ (0x0BF : Addr) < 0x0C0 := by decide
theorem witness_ResetInputClearsEveryAddress : (ahead [.reset]).host.pending = .reset :: [] := rfl

/-- A host about to hand over a frame, with `n` milliseconds of settle time left. -/
def sending (n : Nat) : State := { State.reset with host := { State.reset.host with pending := [.xmit], settle := n } }

/-- Cooling frames with every payload byte nonzero, so that the fan bytes are, wherever they stand. -/
def fanLike : List Byte := [0x3F, 0x18, 0x14] ++ List.replicate 60 0x02 ++ [0x00]

theorem fanLike_cooling : HoldsCooling (withBuf .tx fanLike) := ⟨by decide +kernel, by decide +kernel⟩

theorem fanLike_holds : HoldsFanWrite (withBuf .tx fanLike) := by
  have h : ∀ k, k < 60 → (withBuf .tx fanLike).byte .tx (3 + k) ≠ 0x00 := by decide +kernel
  have ho := fanOffsets_lt Config.fanModeOfs1 (by simp [fanOffsets])
  exact And.intro fanLike_cooling (Exists.intro Config.fanModeOfs1 ⟨by simp, h _ ho⟩)

/-- A fan write about to be handed over, with the pump mode `m` learnt. -/
def sendingFan (m : Option Byte) : State :=
  { withBuf .tx fanLike with host := { State.reset.host with pending := [.xmit], learntMode := m } }

theorem sendingFan_holds (m : Option Byte) : HoldsFanWrite (sendingFan m) := by
  have e : (sendingFan m).byte = (withBuf .tx fanLike).byte := funext fun b => funext fun k => State.byte_of_mem (by simp only [sendingFan]) b k
  have h := fanLike_holds
  unfold HoldsFanWrite HoldsCooling at h ⊢
  rw [e]
  exact h

/-- The duty is met with the embedded pump mode learnt, and broken with none or another. -/
theorem witness_FanWriteNeedsTheCurrentPumpMode : (∀ m, HoldsFanWrite (sendingFan m)) ∧
    (∀ m, (sendingFan m).host.pending = .xmit :: [] ∧ (sendingFan m).host.settle = 0) ∧
    (sendingFan none).host.learntMode ≠ some ((sendingFan none).byte .tx 23) ∧
    (sendingFan (some 0x01)).host.learntMode ≠ some ((sendingFan (some 0x01)).byte .tx 23) ∧
    (sendingFan (some 0x02)).host.learntMode = some ((sendingFan (some 0x02)).byte .tx 23) :=
  ⟨sendingFan_holds, fun _ => ⟨rfl, rfl⟩, by decide +kernel, by decide +kernel, by decide +kernel⟩
/-- What TX_BUF holds at a hand-over: the telemetry request, a cooling write, neither. -/
theorem witness_HandOverSnapshotsTxBuf_frames :
    HoldsTlmRequest (withBuf .tx (nz 64 [(0, 0x3F), (1, 0xFF), (63, 0x87)])) ∧ HoldsCooling (withBuf .tx fanLike) ∧
    ¬ HoldsTlmRequest State.reset ∧ ¬ HoldsCooling State.reset := by
  refine ⟨⟨by decide +kernel, by decide +kernel, by decide +kernel, by decide +kernel⟩,
    ⟨by decide +kernel, by decide +kernel⟩, fun h => absurd h.1 (by decide +kernel), fun h => absurd h.2 (by decide +kernel)⟩
theorem witness_HandOverSnapshotsTxBuf : ¬ HoldsFanWrite (sending 0) ∧ (sending 0).host.pending = .xmit :: [] ∧ (sending 0).host.settle = 0 ∧
    (sending 1).host.pending = .xmit :: [] ∧ 0 < (sending 1).host.settle ∧
    (ahead [.waitMs 5]).host.pending = .waitMs 5 :: [] :=
  ⟨fun h => absurd h.1.2 (by decide +kernel), by decide⟩

theorem witness_FrameEncodeBuildsBothForms_reserved : (8 : BitVec 4) ≠ 0 ∨ (0x40 : BitVec 7) ≠ 0 := by decide
theorem witness_ZeroPayloadEqualsAbsentPayload : ∀ k, k < 60 → (withBuf .tx (countUp 64)).byte .payload k = 0x00 := by
  decide +kernel
theorem witness_IssueSequenceRunsTheOperation :
    (ahead (issueInstr (.plFan 50 1) ++ [.lb 0x005])).host.pending = issueInstr (.plFan 50 1) ++ [.lb 0x005] := rfl

/-- Both ends of the range for each buffer, and the first START + LEN and the first SEL past them. -/
theorem witness_CrcBufSumsTheRange :
    (∀ p ∈ [(0x00#8, Buffer.tx, 0x40#8), (0x01, .rx, 0x40), (0x02, .payload, 0x3C), (0x03, .led, 0x30)],
      [Buffer.tx, .rx, .payload, .led][p.1.toNat]? = some p.2.1 ∧ p.2.2.toNat + (0 : Byte).toNat ≤ p.2.1.size ∧
      p.2.1.size < p.2.2.toNat + (1 : Byte).toNat) ∧ 4 ≤ (4 : Byte).toNat := by decide
/-- Pump modes at the boundary (PL_FAN, PL_PUMP, TX_FAN, TX_PUMP). -/
theorem witness_pump_modes : (2 : Byte).toNat ≤ 2 ∧ 3 ≤ (3 : Byte).toNat := by decide

/-- One operation with illegal operands for each check. -/
theorem witness_IllegalOperandsOnlyRecordTheError :
    ∀ i ∈ [Instr.crcBuf 4 0 0, .crcBuf 3 48 1, .frameEncode 0 false 8 0 0 false, .frameEncode 0 false 0 0 1 false,
      .plFan 0 3, .plPump 3, .txFan 0 3, .txPump 3], i.wellFormed = false := by decide
/-- Legal operands: with a validation that fails, one that succeeds, and none. -/
theorem witness_LegalOperandsEndNormallyOrInMismatch :
    (Instr.txFanKeep 50).wellFormed = true ∧ validates (.txFanKeep 50) = true ∧
    ¬ rxMatches (withBuf .rx (nz 64 [(63, 0x01)])) ∧ rxMatches State.reset ∧
    (Instr.txPump 2).wellFormed = true ∧ validates (.txPump 2) = false := by decide +kernel

/-- An operation that ends in a next state (for the rules over every operation). -/
theorem witness_exec_next : ∃ t, exec (.plPump 2) State.reset = .next t ∧ Instr.plPump 2 ≠ .tlmDecode := ⟨_, rfl, by decide⟩
theorem witness_OnlyValidationWritesTheCheckFlags :
    (∃ t, exec .frameValidate State.reset = .next t ∧ validates .frameValidate = true) ∧
    ∃ t, exec .nop State.reset = .next t ∧ validates .nop = false := by
  refine ⟨⟨finish .none (validateRx State.reset), ?_, rfl⟩, ⟨_, rfl, rfl⟩⟩
  simp only [exec, execFrameValidate, (rxValid_iff State.reset).2 witness_rxMatches.1, if_true]
  rfl
theorem witness_OnlyFrameOpsWriteTxBuf :
    (∃ t, exec .txTlmReq State.reset = .next t ∧ buildsFrame .txTlmReq = true ∧ t.errcode = 0x00) ∧
    ∃ t, exec (.txPump 3) State.reset = .next t ∧ t.errcode ≠ 0x00 := ⟨⟨_, rfl, rfl, by simp⟩, ⟨_, rfl, by decide⟩⟩
theorem witness_OnlyPayloadOpsWritePayload :
    (∃ t, exec .nop State.reset = .next t ∧ writesPayload .nop = false) ∧
    ∃ t, exec (.plPump 3) State.reset = .next t ∧ t.errcode ≠ 0x00 := ⟨⟨_, rfl, rfl⟩, ⟨_, rfl, by decide⟩⟩
theorem witness_OnlyCrcAndFrameOpsWriteTheRemainder :
    (∃ t, exec .plClear State.reset = .next t ∧ writesCrc .plClear = false) ∧
    (∃ t, exec (.txPump 3) State.reset = .next t ∧ (Instr.txPump 3).wellFormed = false) ∧
    get (fun t => t.errcode) (exec .frameValidate (withBuf .rx (nz 64 [(63, 0x01)]))) = some 0x04 :=
  ⟨⟨_, rfl, rfl⟩, ⟨_, rfl, by decide⟩, by decide +kernel⟩
theorem witness_StickyErrRecordsEveryError : (∃ t, exec .clrErr State.reset = .next t) ∧
    ∃ t, exec (.txPump 3) State.reset = .next t := ⟨⟨_, rfl⟩, ⟨_, rfl⟩⟩
/-- The state TX_LIGHT leaves after reset. -/
def txLightReset : State := finish .none (sendLighting (lightPayload State.reset.ledColors) State.reset)

/-- A built frame, and a state whose RX_BUF holds a copy of it. -/
theorem witness_BuiltFramesAreValid : ∃ t, exec .txLight State.reset = .next t ∧ buildsFrame .txLight = true ∧
    t.errcode = 0x00 ∧ ∃ u : State, ∀ k, k < 64 → u.byte .rx k = t.byte .tx k := by
  refine ⟨txLightReset, rfl, rfl, by simp [txLightReset], State.reset.store .rx (txLightReset.bytes .tx), fun k hk => ?_⟩
  rw [State.byte_store _ .rx .rx _ _ (State.bytes_length _ .tx) hk, if_pos rfl, State.bytes_eq_map]
  simp [Buffer.size, hk]

/-- A lighting frame with nonce 0x28 and no LED lit. -/
def lightFrame : List Byte := nz 64 [(0, 0x3F), (1, 0x2C), (63, 0xAE)]

/-- A state no reset gives: a lighting frame built and handed over, an error recorded, telemetry decoded, one LED
written, a response awaited, and the host about to write another LED byte. -/
def busy : State :=
  { State.reset with
    mem := [(0x040, 0x3F), (0x041, 0x2C), (0x07F, 0xAE), (0x101, 0x22)]
    status := 0x1E
    errcode := 0x04
    tlm := { Telemetry.zero with fwMajor := 1, fwMinor := 2, pumpMode := 0x01, pumpModeRaw := 0x05 }
    host :=
      { pending := [.sb 0x100 0x11], reads := [], frames := [lightFrame], settle := 5, awaited := some [5, 63],
        learntMode := some 0x01 } }

theorem witness_StepKeepsMemoryForm : busy.MemoryForm ∧ ∃ t, step busy = .next t :=
  ⟨⟨by decide +kernel, by decide +kernel⟩, _, rfl⟩
theorem witness_StepKeepsStatusForm : busy.StatusForm ∧ ∃ t, step busy = .next t :=
  ⟨⟨by decide, by decide, by decide, by decide⟩, _, rfl⟩
theorem witness_StepKeepsFieldsForm : busy.FieldsForm ∧ ∃ t, step busy = .next t :=
  ⟨⟨by decide, by decide, by decide, by decide⟩, _, rfl⟩
theorem witness_StepKeepsEveryFrameValid : busy.FramesForm ∧ ∃ t, step busy = .next t :=
  ⟨⟨by decide +kernel, by decide +kernel, by decide +kernel, by decide +kernel, by decide +kernel,
    fun ks h => by cases h; decide, fun m h => by cases h; decide⟩, _, rfl⟩

theorem witness_ChecksumIsLinear : [0x01#8, 0x02].length = [0x80#8, 0x00].length := rfl
/-- A valid frame with a changed byte 1 and a changed byte 63. -/
theorem witness_SingleByteChangeIsDetected : (0x01 : Byte) ≠ 0x02 ∧ crcRound 0x80 = crcRound 0x80 ∧
    formB.length = 64 ∧ frameValid formB = true ∧ formB.getD 1 0 ≠ 0x00 ∧ formB.getD 63 0 ≠ 0xCA := by decide +kernel
theorem witness_DutyByteIsNearest : (0 : Byte).toNat ≤ 100 ∧ (100 : Byte).toNat ≤ 100 ∧ 100 ≤ (255 : Byte).toNat ∧
    (50 : Byte).toNat ≤ (51 : Byte).toNat := by decide
theorem witness_ShownHundredthIsUniquelyNearest :
    (3049 : Int) ≠ hundredths (liquidTemp { Telemetry.zero with tempInt := 0x1E, tempFrac := 0x80 }) ∧
    (5019 : Int) ≠ hundredths (dutyPercent 0x80) := by decide +kernel

end Sys2Proof.Tests
end

section
/-! SUPPORT. The register map (rules R21, R38): where each buffer byte stands, and what no place stands at. -/

namespace Sys2Proof.Machine

/-- From 0x017 upward the map is `locateHigh` (R21). -/
theorem locate_of_ge {a : Addr} (h : 0x017 ≤ a.toNat) : locate a = locateHigh a.toNat := by
  unfold locate
  split
  case h_24 => rfl
  all_goals omega

/-- Byte `k` of a buffer stands at the buffer's base plus `k` (R21). -/
theorem locateHigh_buf {b : Buffer} {k : Nat} (hk : k < b.size) : locateHigh (b.base + k) = .buf b k := by
  cases b with
  | tx =>
    change locateHigh (0x040 + k) = _
    change k < 64 at hk
    rw [locateHigh, if_pos (by omega), Nat.add_sub_cancel_left]
  | rx =>
    change locateHigh (0x080 + k) = _
    change k < 64 at hk
    rw [locateHigh, if_neg (by omega), if_pos (by omega), Nat.add_sub_cancel_left]
  | payload =>
    change locateHigh (0x0C0 + k) = _
    change k < 60 at hk
    rw [locateHigh, if_neg (by omega), if_neg (by omega), if_pos (by omega), Nat.add_sub_cancel_left]
  | led =>
    change locateHigh (0x100 + k) = _
    change k < 48 at hk
    rw [locateHigh, if_neg (by omega), if_neg (by omega), if_neg (by omega), if_pos (by omega), Nat.add_sub_cancel_left]

/-- The map names no byte past a buffer's end (R21). -/
theorem lt_size_of_locateHigh {n k : Nat} {b : Buffer} (h : locateHigh n = .buf b k) : k < b.size := by
  unfold locateHigh at h
  split_ifs at h <;> cases h <;> simp only [Buffer.size] <;> omega

theorem lt_size_of_locate {a : Addr} {b : Buffer} {k : Nat} (h : locate a = .buf b k) : k < b.size := by
  unfold locate at h
  split at h
  case h_24 => exact lt_size_of_locateHigh h
  all_goals cases h

theorem locateHigh_reserved {n : Nat} (h : n ≤ 0x03F ∨ (0x0FC ≤ n ∧ n ≤ 0x0FF) ∨ 0x130 ≤ n) :
    locateHigh n = .reserved := by
  rw [locateHigh, if_neg (by omega), if_neg (by omega), if_neg (by omega), if_neg (by omega)]

/-- A host read of a buffer's byte (R21, R52). -/
theorem busRead_buf (s : State) {b : Buffer} {k : Nat} (hk : k < b.size) :
    busRead (BitVec.ofNat 9 (b.base + k)) s = s.mem.read (b.base + k) := by
  have hb : 0x040 ≤ b.base ∧ b.base + b.size ≤ 0x130 := by cases b <;> decide
  have hn : (BitVec.ofNat 9 (b.base + k)).toNat = b.base + k := by
    rw [BitVec.toNat_ofNat, Nat.mod_eq_of_lt (by omega)]
  rw [busRead, locate_of_ge (by omega), hn, locateHigh_buf hk]
  rfl

/-- A host read of a reserved address (R38). -/
theorem busRead_reserved (s : State) {a : Addr}
    (h : a = 0x007 ∨ a = 0x013 ∨ (0x017 ≤ a ∧ a ≤ 0x03F) ∨ (0x0FC ≤ a ∧ a ≤ 0x0FF) ∨ 0x130 ≤ a) :
    busRead a s = 0x00 := by
  have hl : locate a = .reserved := by
    rcases h with rfl | rfl | h
    · rfl
    · rfl
    · rw [locate_of_ge (by bv_omega), locateHigh_reserved (by bv_omega)]
  rw [busRead, hl]
  rfl

/-- Settles O9: the registers read by the map's rows, the rest by `locateHigh`. -/
theorem registerMapReadsEveryPlace : Obligations.RegisterMapReadsEveryPlace := fun s =>
  ⟨rfl, rfl, rfl, fun _ hk => busRead_buf s (b := .tx) hk, fun _ hk => busRead_buf s (b := .rx) hk,
    fun _ hk => busRead_buf s (b := .payload) hk, fun _ hk => busRead_buf s (b := .led) hk,
    fun _ h => busRead_reserved s h⟩

end Sys2Proof.Machine
end

section
/-! SUPPORT. How an operation ends: one inversion lemma for `exec`, from which the rules over every operation follow
(rules R91, R193, R194). -/

namespace Sys2Proof.Machine

/-- The state CLR_ERR leaves (R93). -/
def clearErr (s : State) : State := { s.putFlag .stickyErr false with errcode := 0x00 }

section
variable (s : State)
@[simp] theorem clearErr_errcode : (clearErr s).errcode = 0x00 := rfl
@[simp] theorem clearErr_crcRem : (clearErr s).crcRem = s.crcRem := rfl
@[simp] theorem clearErr_tlm : (clearErr s).tlm = s.tlm := rfl
@[simp] theorem clearErr_mem : (clearErr s).mem = s.mem := rfl
@[simp] theorem clearErr_draws : (clearErr s).draws = s.draws := rfl
@[simp] theorem clearErr_flag (f : StatusFlag) :
    (clearErr s).flag f = if f = .stickyErr then false else s.flag f :=
  State.flag_putFlag s .stickyErr f false
end

/-- How operation `i`, begun in state `s`, can end, and in which state (R91). Every legal operation of one kind ends the
same way; the kinds are told by what the operation writes. -/
inductive ExecResult (s : State) : Instr → State → Prop
  /-- Operands that are not legal: the error is recorded and nothing else happens (R193). -/
  | illegal {i : Instr} (hw : i.wellFormed = false) : ExecResult s i (finish (operandError i) s)
  /-- NOP (R92). -/
  | nop : ExecResult s .nop (finish .none s)
  /-- CLR_ERR (R93). -/
  | clrErr : ExecResult s .clrErr (clearErr s)
  /-- A CRC operation: a new remainder (R104 to R107). -/
  | crc {i : Instr} {c : Byte} (hw : i.wellFormed = true) (hv : validates i = false) (hf : buildsFrame i = false)
      (hp : writesPayload i = false) (hc : writesCrc i = true) : ExecResult s i (finish .none (s.putCrc c))
  /-- A payload operation: sixty new bytes of PAYLOAD (R145 to R149). -/
  | payload {i : Instr} {pl : List Byte} (hw : i.wellFormed = true) (hv : validates i = false)
      (hf : buildsFrame i = false) (hp : writesPayload i = true) (hl : pl.length = 60) :
      ExecResult s i (finish .none (s.store .payload pl))
  /-- A frame built with PAYLOAD as it stands (R122, R170). -/
  | frame {i : Instr} {cmd : Byte} {fe : Bool} {feat : BitVec 3} {ple : Bool} (hw : i.wellFormed = true)
      (hv : validates i = false) (hf : buildsFrame i = true) (hp : writesPayload i = false) (hc : writesCrc i = true) :
      ExecResult s i (finish .none (encodeFrame cmd fe feat ple s))
  /-- A subsystem write: a payload and then its frame (R150 to R152, R154). -/
  | send {i : Instr} {pl : List Byte} {cmd : Byte} {fe : Bool} {feat : BitVec 3} (hw : i.wellFormed = true)
      (hv : validates i = false) (hf : buildsFrame i = true) (hp : writesPayload i = true) (hc : writesCrc i = true)
      (hl : pl.length = 60) : ExecResult s i (finish .none (encodeFrame cmd fe feat true (s.store .payload pl)))
  /-- FRAME_VALIDATE on a valid RX_BUF (R125). -/
  | validated (hr : s.rxValid = true) : ExecResult s .frameValidate (finish .none (validateRx s))
  /-- TLM_DECODE on a valid RX_BUF (R173). -/
  | decoded (hr : s.rxValid = true) :
      ExecResult s .tlmDecode (finish .none (((validateRx s).putFlag .tlmValid true).putTlm (extractTlm s)))
  /-- TX_FAN_KEEP on a valid RX_BUF (R153). -/
  | kept {pct : Byte} {pl : List Byte} {cmd : Byte} {fe : Bool} {feat : BitVec 3} (hr : s.rxValid = true)
      (hl : pl.length = 60) :
      ExecResult s (.txFanKeep pct) (finish .none (encodeFrame cmd fe feat true ((validateRx s).store .payload pl)))
  /-- FRAME_VALIDATE or TX_FAN_KEEP on an RX_BUF that is not valid (R125, R153). -/
  | mismatch {i : Instr} (hv : validates i = true) (hd : i ≠ .tlmDecode) (hr : s.rxValid = false) :
      ExecResult s i (finish .checksumMismatch (validateRx s))
  /-- TLM_DECODE on an RX_BUF that is not valid (R173). -/
  | cleared (hr : s.rxValid = false) : ExecResult s .tlmDecode
      (finish .checksumMismatch (((validateRx s).putFlag .tlmValid false).putTlm Telemetry.zero))

/-- The buffer SEL names has the size R73 gives it. -/
theorem selSize_eq (sel : Byte) : selSize sel.toNat = (selBuffer sel).map Buffer.size := by
  unfold selSize selBuffer
  generalize sel.toNat = n
  match n with
  | 0 | 1 | 2 | 3 | _ + 4 => rfl

theorem selBuffer_eq_none {sel : Byte} : selBuffer sel = none ↔ 4 ≤ sel.toNat := by
  unfold selBuffer
  generalize sel.toNat = n
  match n with
  | 0 | 1 | 2 | 3 => exact iff_of_false nofun (by decide)
  | n + 4 => exact iff_of_true rfl (Nat.le_add_left 4 n)

theorem crcRangeWf_of_none {sel : Byte} (start len : Byte) (h : selBuffer sel = none) :
    crcRangeWf sel start len = false := by
  simp [crcRangeWf, selSize_eq, h]

theorem crcRangeWf_of_some {sel : Byte} {b : Buffer} (start len : Byte) (h : selBuffer sel = some b) :
    crcRangeWf sel start len = rangeFits start len b := by
  simp [crcRangeWf, selSize_eq, h, rangeFits]

/-- An operation that checks something first ends normally or with an error, as the check goes. -/
theorem exists_result_of_check {g : Bool} {s u v : State} {c : ErrCode} {i : Instr}
    (ok : g = true → ExecResult s i (finish .none u)) (bad : g = false → ExecResult s i (finish c v)) :
    ∃ t, (if g then done u else raise c v) = .next t ∧ ExecResult s i t := by
  cases g
  · exact ⟨_, rfl, bad rfl⟩
  · exact ⟨_, rfl, ok rfl⟩

/-- CRC_BUF's two checks, in their order (R73, R107). -/
theorem exists_result_crcBuf (sel start len : Byte) (s : State) :
    ∃ t, execCrcBuf sel start len s = .next t ∧ ExecResult s (.crcBuf sel start len) t := by
  cases hb : selBuffer sel with
  | none =>
    have herr : operandError (.crcBuf sel start len) = .badArg :=
      if_neg (Nat.not_lt.2 (selBuffer_eq_none.1 hb))
    refine ⟨_, ?_, .illegal (crcRangeWf_of_none start len hb)⟩
    simp only [execCrcBuf, hb, herr, raise]
  | some b =>
    have herr : operandError (.crcBuf sel start len) = .badRange :=
      if_pos (Nat.lt_of_not_le fun h => by simp [selBuffer_eq_none.2 h] at hb)
    have hw : (Instr.crcBuf sel start len).wellFormed = rangeFits start len b := crcRangeWf_of_some start len hb
    simp only [execCrcBuf, hb, ← hw]
    exact exists_result_of_check (fun h => .crc h rfl rfl rfl rfl) fun h => herr ▸ .illegal h

/-- Every operation ends in a next state, in one of the ways of `ExecResult` (R194). -/
theorem exists_result (i : Instr) (s : State) : ∃ t, exec i s = .next t ∧ ExecResult s i t := by
  have hlight (t : List Color) (ht : t.length = 16) : (lightPayload t).length = 60 := by
    rw [lightPayload_length, ht]
  cases i with
  | nop => exact ⟨_, rfl, .nop⟩
  | crcInit => exact ⟨_, rfl, .crc rfl rfl rfl rfl rfl⟩
  | crcByte data => exact ⟨_, rfl, .crc rfl rfl rfl rfl rfl⟩
  | crcRound => exact ⟨_, rfl, .crc rfl rfl rfl rfl rfl⟩
  | crcBuf sel start len => exact exists_result_crcBuf sel start len s
  | clrErr => exact ⟨_, rfl, .clrErr⟩
  | frameEncode cmd featEn rsvA1 feat rsvA2 plEn =>
    exact exists_result_of_check (fun h => .frame h rfl rfl rfl rfl) fun h => .illegal h
  | frameValidate => exact exists_result_of_check .validated (.mismatch rfl (by decide))
  | plClear => exact ⟨_, rfl, .payload rfl rfl rfl rfl (zeros_length _)⟩
  | plLight => exact ⟨_, rfl, .payload rfl rfl rfl rfl (hlight _ s.ledColors_length)⟩
  | plLightSolid r g b => exact ⟨_, rfl, .payload rfl rfl rfl rfl (hlight _ (solidColors_length r g b))⟩
  | plFan pct mode =>
    exact exists_result_of_check (fun h => .payload h rfl rfl rfl (fanLayout_length _ _)) fun h => .illegal h
  | plPump mode =>
    exact exists_result_of_check (fun h => .payload h rfl rfl rfl (coolingBase_length _)) fun h => .illegal h
  | tlmDecode => exact exists_result_of_check .decoded .cleared
  | txTlmReq => exact ⟨_, rfl, .frame rfl rfl rfl rfl rfl⟩
  | txLight => exact ⟨_, rfl, .send rfl rfl rfl rfl rfl (hlight _ s.ledColors_length)⟩
  | txLightSolid r g b => exact ⟨_, rfl, .send rfl rfl rfl rfl rfl (hlight _ (solidColors_length r g b))⟩
  | txFan pct mode =>
    exact exists_result_of_check (fun h => .send h rfl rfl rfl rfl (fanLayout_length _ _)) fun h => .illegal h
  | txFanKeep pct =>
    exact exists_result_of_check (fun h => .kept h (fanLayout_length _ _)) (.mismatch rfl nofun)
  | txPump mode =>
    exact exists_result_of_check (fun h => .send h rfl rfl rfl rfl (coolingBase_length _)) fun h => .illegal h

/-- What an operation that ended can have done. -/
theorem ExecResult.of_exec {i : Instr} {s t : State} (h : exec i s = .next t) : ExecResult s i t := by
  obtain ⟨u, hu, hr⟩ := exists_result i s
  cases hu.symm.trans h
  exact hr

end Sys2Proof.Machine
end

section
/-! SUPPORT. What `ExecResult` says of each part of the state, and the rules over every operation (R22, R25 to R29, R32
to R37). -/

namespace Sys2Proof.Machine

section
variable (s : State) (b : Buffer) (k : Nat)
@[simp] theorem State.byte_putCrc (c : Byte) : (s.putCrc c).byte b k = s.byte b k := rfl
@[simp] theorem State.byte_putTlm (t : Telemetry) : (s.putTlm t).byte b k = s.byte b k := rfl
@[simp] theorem State.byte_putFlag (f : StatusFlag) (v : Bool) : (s.putFlag f v).byte b k = s.byte b k := rfl
@[simp] theorem clearErr_byte : (clearErr s).byte b k = s.byte b k := rfl
@[simp] theorem validateRx_byte : (validateRx s).byte b k = s.byte b k := rfl
end

theorem operandError_cases (i : Instr) : operandError i = .badArg ∨ operandError i = .badRange := by
  cases i with
  | crcBuf sel start len =>
    simp only [operandError]
    split
    · exact .inr rfl
    · exact .inl rfl
  | _ => exact .inl rfl

@[simp] theorem operandError_ne_none (i : Instr) : operandError i ≠ .none := by
  rcases operandError_cases i with h | h <;> simp [h]

@[simp] theorem operandError_code_ne_zero (i : Instr) : (operandError i).code ≠ 0#8 :=
  mt ErrCode.code_eq_zero.1 (operandError_ne_none i)

theorem operandError_code_ne_checksumMismatch (i : Instr) : (operandError i).code ≠ 0x04 := by
  rcases operandError_cases i with h | h <;> rw [h] <;> decide

@[simp] theorem checksumMismatch_code_ne_zero : ErrCode.checksumMismatch.code ≠ 0#8 := by decide

/-- The validating operations have no operand that can be illegal (R72 to R74). -/
theorem wellFormed_of_validates {i : Instr} (h : validates i = true) : i.wellFormed = true := by
  cases i with
  | frameValidate => rfl
  | tlmDecode => rfl
  | txFanKeep => rfl
  | _ => cases h

theorem decide_rxMatches (s : State) : decide (rxMatches s) = s.rxValid := by
  rw [Bool.eq_iff_iff, decide_eq_true_iff, rxValid_iff]

/-- Every flag of STATUS (R24). -/
def everyFlag : List StatusFlag := [.chkValid, .chkMismatch, .tlmValid, .lightTx, .stickyErr]

theorem mem_everyFlag (f : StatusFlag) : f ∈ everyFlag := by cases f <;> decide

/-- `validate_rx` writes CRC_REM (R32, R124). -/
theorem writesCrc_of_validates {i : Instr} (h : validates i = true) : writesCrc i = true := by
  cases i with
  | frameValidate => rfl
  | tlmDecode => rfl
  | txFanKeep => rfl
  | _ => cases h

variable {i : Instr} {s t : State}

/-- An operation reaches the flags of STATUS and the buffers TX_BUF and PAYLOAD, and no further (R22, R30, R35, R37). -/
theorem ExecResult.keepsAllBut (h : ExecResult s i t) : KeepsAllBut everyFlag [.tx, .payload] s t := by
  have hfin {u : State} {c : ErrCode} (hu : KeepsAllBut everyFlag [.tx, .payload] s u) :
      KeepsAllBut everyFlag [.tx, .payload] s (finish c u) := hu.trans (.finish _ _ _ (.inr (mem_everyFlag _)))
  have hflag (u : State) (f : StatusFlag) (b : Bool) : KeepsAllBut everyFlag [.tx, .payload] u (u.putFlag f b) :=
    .putFlag _ _ _ (mem_everyFlag f)
  have hstore (u : State) {pl : List Byte} (hl : pl.length = 60) :
      KeepsAllBut everyFlag [.tx, .payload] u (u.store .payload pl) := .store _ _ (by decide) hl
  have hframe (cmd : Byte) (fe : Bool) (feat : BitVec 3) (ple : Bool) (u : State) :
      KeepsAllBut everyFlag [.tx, .payload] u (encodeFrame cmd fe feat ple u) :=
    .encodeFrame _ _ _ _ _ (mem_everyFlag _) (by decide)
  have hrx : KeepsAllBut everyFlag [.tx, .payload] s (validateRx s) :=
    .validateRx _ _ (mem_everyFlag _) (mem_everyFlag _)
  cases h with
  | illegal hw => exact hfin (.refl _ _ _)
  | nop => exact hfin (.refl _ _ _)
  | clrErr => exact { hflag s .stickyErr false with }
  | crc => exact hfin (.putCrc _ _ _ _)
  | payload _ _ _ _ hl => exact hfin (hstore s hl)
  | frame => exact hfin (hframe _ _ _ _ s)
  | send _ _ _ _ _ hl => exact hfin ((hstore s hl).trans (hframe _ _ _ _ _))
  | validated => exact hfin hrx
  | decoded => exact hfin (hrx.trans ((hflag _ _ _).trans (.putTlm _ _ _ _)))
  | kept _ hl => exact hfin (hrx.trans ((hstore _ hl).trans (hframe _ _ _ _ _)))
  | mismatch => exact hfin hrx
  | cleared => exact hfin (hrx.trans ((hflag _ _ _).trans (.putTlm _ _ _ _)))

/-- A buffer outside the excepted ones is kept, byte by byte. -/
theorem KeepsAllBut.byte_eq {fs : List StatusFlag} {bs : List Buffer} (h : KeepsAllBut fs bs s t) {b : Buffer} {k : Nat}
    (hb : b ∉ bs) (hk : k < b.size) : t.byte b k = s.byte b k := by
  refine h.mem _ fun c hc hr => hb ?_
  have hj : b.base + k = c.base + (b.base + k - c.base) := by omega
  exact (Buffer.addr_inj hk (by omega) hj).1 ▸ hc

/-- Only TLM_DECODE writes the field registers and TLM_VALID (R27, R33). -/
theorem ExecResult.fields_eq (h : ExecResult s i t) (hi : i ≠ .tlmDecode) :
    t.tlm = s.tlm ∧ t.flag .tlmValid = s.flag .tlmValid := by
  cases h with
  | decoded => exact absurd rfl hi
  | cleared => exact absurd rfl hi
  | _ => simp [finish_flag]

/-- The CHK flags are written by `validate_rx` alone (R25, R26, R124). -/
theorem ExecResult.chkFlags_eq (h : ExecResult s i t) :
    if validates i then t.flag .chkValid = s.rxValid ∧ t.flag .chkMismatch = !s.rxValid
    else t.flag .chkValid = s.flag .chkValid ∧ t.flag .chkMismatch = s.flag .chkMismatch := by
  cases h with
  | illegal hw =>
    have hv : validates i = false := Bool.eq_false_iff.2 fun hv => by simp [wellFormed_of_validates hv] at hw
    simp [hv, finish_flag]
  | nop | clrErr | validated | decoded | kept => simp [validates]
  | crc _ hv | payload _ hv | frame _ hv | send _ hv => simp [hv]
  | mismatch hv => simp [hv, finish_flag]
  | cleared => simp [validates, finish_flag]

/-- An error sets STICKY_ERR, CLR_ERR clears it, and nothing else writes it (R29, R91, R93). -/
theorem exec_stickyErr (h : exec i s = .next t) :
    t.flag .stickyErr = (if i = .clrErr then false else s.flag .stickyErr || decide (t.errcode ≠ 0x00)) := by
  by_cases hi : i = .clrErr
  · subst hi
    cases h
    exact clearErr_flag s .stickyErr
  · rw [if_neg hi]
    cases ExecResult.of_exec h with
    | clrErr => exact absurd rfl hi
    | _ => simp [finish_flag]

/-- TX_BUF, LIGHT_TX and the draw count change only where a frame is built (R28, R34, R120). -/
theorem ExecResult.frame_eq (h : ExecResult s i t) :
    if buildsFrame i = true ∧ t.errcode = 0x00 then t.draws = s.draws + 1
    else (∀ k, k < 64 → t.byte .tx k = s.byte .tx k) ∧ t.flag .lightTx = s.flag .lightTx ∧ t.draws = s.draws := by
  cases h with
  | illegal | mismatch | cleared => simp [finish_flag]
  | nop | clrErr | validated | decoded => simp [buildsFrame]
  | crc _ _ hf => simp [hf]
  | payload _ _ hf _ hl =>
    have hb (k : Nat) (hk : k < 64) : (s.store .payload _).byte .tx k = s.byte .tx k := State.byte_store s _ _ _ k hl hk
    simpa [hf] using hb
  | frame _ _ hf => simp [hf]
  | send _ _ hf => simp [hf]
  | kept => simp [buildsFrame]

/-- PAYLOAD changes only in a payload or subsystem write that ends without error (R36). -/
theorem ExecResult.payload_eq (h : ExecResult s i t) (hw : writesPayload i = false ∨ t.errcode ≠ 0x00) {k : Nat}
    (hk : k < 60) : t.byte .payload k = s.byte .payload k := by
  cases h with
  | payload _ _ _ hp => simp [hp] at hw
  | send _ _ _ hp => simp [hp] at hw
  | kept => simp [writesPayload] at hw
  | frame => simp [encodeFrame_byte _ _ _ _ _ .payload k hk]
  | _ => simp

/-- CRC_REM is kept by an operation outside R32's list, and by one with illegal operands (R32, R193). -/
theorem ExecResult.crcRem_eq (h : ExecResult s i t) (hw : writesCrc i = false ∨ i.wellFormed = false) :
    t.crcRem = s.crcRem := by
  cases h with
  | illegal | nop | clrErr | payload => simp
  | crc hl _ _ _ hc | frame hl _ _ _ hc | send hl _ _ _ hc => simp [hl, hc] at hw
  | validated | decoded | kept | cleared => simp [writesCrc, Instr.wellFormed] at hw
  | mismatch hv => simp [writesCrc_of_validates hv, wellFormed_of_validates hv] at hw

/-- An operation that ends in CHECKSUM_MISMATCH has validated RX_BUF, and failed (R191, R192). -/
theorem ExecResult.of_checksumMismatch (h : ExecResult s i t) (he : t.errcode = 0x04) :
    validates i = true ∧ t.crcRem = s.rxChecksum ∧ s.rxValid = false := by
  cases h with
  | illegal => exact absurd ((finish_errcode _ _).symm.trans he) (operandError_code_ne_checksumMismatch i)
  | mismatch hv _ hr => exact ⟨hv, by simp, hr⟩
  | cleared hr => exact ⟨rfl, by simp, hr⟩
  | _ => simp at he

/-- Settles O36: the two buffers lie outside what an operation can reach. -/
theorem noOperationWritesHostOwnedState : Obligations.NoOperationWritesHostOwnedState := by
  intro i s t h
  have hk := (ExecResult.of_exec h).keepsAllBut
  exact ⟨hk.arg0, hk.arg1, hk.arg2, hk.opcode, hk.host, fun _ => hk.byte_eq (b := .rx) (by decide),
    fun _ => hk.byte_eq (b := .led) (by decide)⟩

/-- Settles O37, by the ways an operation can end. -/
theorem onlyTlmDecodeWritesTheFields : Obligations.OnlyTlmDecodeWritesTheFields :=
  fun _ _ _ hi h => (ExecResult.of_exec h).fields_eq hi

/-- Settles O38, by the ways an operation can end. -/
theorem onlyValidationWritesTheCheckFlags : Obligations.OnlyValidationWritesTheCheckFlags := by
  intro i s t h
  simp only [decide_rxMatches]
  exact (ExecResult.of_exec h).chkFlags_eq

/-- Settles O42: every operation but CLR_ERR ends in `finish`. -/
theorem stickyErrRecordsEveryError : Obligations.StickyErrRecordsEveryError :=
  fun _ _ _ h => exec_stickyErr h

/-- Settles O39, by the ways an operation can end. -/
theorem onlyFrameOpsWriteTxBuf : Obligations.OnlyFrameOpsWriteTxBuf :=
  fun _ _ _ h => (ExecResult.of_exec h).frame_eq

/-- Settles O40, by the ways an operation can end. -/
theorem onlyPayloadOpsWritePayload : Obligations.OnlyPayloadOpsWritePayload :=
  fun _ _ _ h hw _ hk => (ExecResult.of_exec h).payload_eq hw hk

/-- Settles O41: the only mismatch is the one `validate_rx` reports. -/
theorem onlyCrcAndFrameOpsWriteTheRemainder : Obligations.OnlyCrcAndFrameOpsWriteTheRemainder := by
  intro i s t h
  have hr := ExecResult.of_exec h
  refine ⟨hr.crcRem_eq, fun he => ?_⟩
  obtain ⟨hv, hc, hx⟩ := hr.of_checksumMismatch he
  have hs : t.crcRem = bufferSum s .rx 1 62 := hc.trans (rxChecksum_eq_bufferSum s)
  exact ⟨hv, hs, fun e => by simp [(rxValid_iff s).2 (hs.symm.trans e)] at hx⟩

end Sys2Proof.Machine
end

section
/-! SUPPORT. What one step can do to LRPE's own state, and the three invariants kept by every step (rules R20, R21, R25
to R31, R175, R178). -/

namespace Sys2Proof.Machine

/-- What a host write to OPCODE can do: an operation runs, or BAD_OPCODE is recorded (R90, R94). -/
theorem perform_cases {s t : State} (h : perform s = .next t) :
    (∃ i rest, decode s.commandBytes = .ok (i, rest) ∧ exec i s = .next t) ∨
    (∃ e, decode s.commandBytes = .error e ∧ t = finish .badOpcode s) := by
  unfold perform at h
  split at h
  next i rest hd => exact .inl ⟨i, rest, hd, h⟩
  next e hd => cases h; exact .inr ⟨e, hd, rfl⟩

/-- What a host write can do: issue an operation, store a response byte, or store the byte where the map lets it (R53,
R90, R218). -/
theorem hostWrite_cases {a : Addr} {v : Byte} {s t : State} (h : hostWrite a v s = .next t) :
    (locate a = .opcode ∧ perform (s.writeLoc .opcode v) = .next t) ∨
    (∃ k, locate a = .buf .rx k ∧ t = (s.writeLoc (.buf .rx k) v).noteResponse k) ∨
    (locate a ≠ .opcode ∧ (∀ k, locate a ≠ .buf .rx k) ∧ t = s.writeLoc (locate a) v) := by
  unfold hostWrite at h
  split at h
  next k hk => cases h; exact .inr (.inl ⟨k, hk, rfl⟩)
  next hrx =>
    unfold busWrite at h
    split at h
    next ho => exact .inl ⟨ho, h⟩
    next ho => cases h; exact .inr (.inr ⟨ho, hrx, rfl⟩)

/-- A property of LRPE's own state, the host's side left out, that the reset state has and that each of the four things
an access can do keeps: a byte stored in a buffer, an undefined opcode reported, an operation run, and writes to what
the property does not look at (the operand registers, OPCODE, CRC_REM, the draw count, the host's side). -/
structure DeviceInvariant (P : State → Prop) : Prop where
  congr : ∀ {s t : State}, P s → t.status = s.status → t.errcode = s.errcode → t.tlm = s.tlm → t.mem = s.mem → P t
  reset : P State.reset
  putByte : ∀ {s : State} {b : Buffer} {k : Nat} (v : Byte), k < b.size → P s → P (s.putByte b k v)
  badOpcode : ∀ {s : State}, P s → P (finish .badOpcode s)
  exec : ∀ {i : Instr} {s t : State}, P s → Machine.exec i s = .next t → P t

namespace DeviceInvariant
variable {P : State → Prop} {s t : State}

theorem writeLoc (hP : DeviceInvariant P) {l : Loc} (hl : ∀ b k, l = .buf b k → k < b.size) (v : Byte) (h : P s) :
    P (s.writeLoc l v) := by
  cases l with
  | arg0 | arg1 | arg2 | opcode => exact hP.congr h rfl rfl rfl rfl
  | status | errcode | crcRem | tlm | reserved => exact h
  | buf b k =>
    simp only [State.writeLoc]
    split
    · exact hP.putByte v (hl b k rfl) h
    · exact h

theorem hostWrite (hP : DeviceInvariant P) {a : Addr} {v : Byte} (h : P s) (ht : Machine.hostWrite a v s = .next t) :
    P t := by
  rcases hostWrite_cases ht with ⟨_, ht⟩ | ⟨k, hk, rfl⟩ | ⟨_, _, rfl⟩
  · have hs : P (s.writeLoc .opcode v) := hP.writeLoc (l := .opcode) nofun v h
    rcases perform_cases ht with ⟨_, _, _, hi⟩ | ⟨_, _, rfl⟩
    · exact hP.exec hs hi
    · exact hP.badOpcode hs
  · have hs : P (s.writeLoc (.buf .rx k) v) := hP.writeLoc (hk ▸ fun _ _ => lt_size_of_locate) v h
    exact hP.congr hs (by simp) (by simp) (by simp) (by simp)
  · exact hP.writeLoc (fun _ _ => lt_size_of_locate) v h

theorem hostAct (hP : DeviceInvariant P) {e : HostEvent} (h : P s) (ht : Machine.hostAct e s = .next t) : P t := by
  cases e with
  | sb a v => exact hP.hostWrite h ht
  | lb a => cases ht; exact hP.congr h rfl rfl rfl rfl
  | xmit =>
    rcases transmit_cases s with ⟨_, hf⟩ | ⟨_, _, _, hf⟩ | ⟨_, _, hf⟩
    · cases hf.symm.trans ht
    · cases hf.symm.trans ht
    · cases hf.symm.trans ht; exact hP.congr h rfl rfl rfl rfl
  | waitMs n => cases ht; exact hP.congr h rfl rfl rfl rfl
  | reset => cases ht; exact hP.congr hP.reset rfl rfl rfl rfl

/-- Every step keeps it (R57, R59). -/
theorem step (hP : DeviceInvariant P) (h : P s) (ht : Machine.step s = .next t) : P t := by
  unfold Machine.step at ht
  split at ht
  next => cases ht; exact h
  next e rest _ =>
    have hs : P (s.popEvent rest) := hP.congr h rfl rfl rfl rfl
    exact hP.hostAct hs ht

end DeviceInvariant

/-! ### The buffers' memory -/

section
variable {s t : State}

theorem State.MemoryForm.of_mem (h : s.MemoryForm) (hm : t.mem = s.mem) : t.MemoryForm :=
  ⟨hm ▸ h.canonical, hm ▸ h.mapped⟩

/-- Bytes written inside one buffer keep the form, however many. -/
theorem State.MemoryForm.of_writeBytes (h : s.MemoryForm) {b : Buffer} {k : Nat} {bs : List Byte}
    (hm : t.mem = s.mem.writeBytes (b.base + k) bs) (hl : k + bs.length ≤ b.size) : t.MemoryForm where
  canonical := hm ▸ Memory.wf_writeBytes h.canonical _ _
  mapped c hc := by
    rcases Memory.mem_writeBytes (hm ▸ hc) with hr | hc
    · exact Buffer.isBufferAddr_of_range (b := b) (by omega)
    · exact h.mapped c hc

theorem State.MemoryForm.store (h : s.MemoryForm) {b : Buffer} {bs : List Byte} (hl : bs.length = b.size) :
    (s.store b bs).MemoryForm := h.of_writeBytes (k := 0) rfl (by omega)

theorem State.MemoryForm.encodeFrame (h : s.MemoryForm) (cmd : Byte) (fe : Bool) (feat : BitVec 3) (ple : Bool) :
    (encodeFrame cmd fe feat ple s).MemoryForm :=
  (h.store (b := .tx) (State.frameWith_length s s.nextNonce cmd fe feat ple)).of_mem rfl

theorem ExecResult.memoryForm {i : Instr} (h : s.MemoryForm) (hr : ExecResult s i t) : t.MemoryForm := by
  cases hr with
  | payload _ _ _ _ hl => exact (h.store (b := .payload) hl).of_mem (finish_mem _ _)
  | frame => exact (h.encodeFrame _ _ _ _).of_mem (finish_mem _ _)
  | send _ _ _ _ _ hl => exact ((h.store (b := .payload) hl).encodeFrame _ _ _ _).of_mem (finish_mem _ _)
  | kept _ hl =>
    have hv : (validateRx s).MemoryForm := h.of_mem rfl
    exact ((hv.store (b := .payload) hl).encodeFrame _ _ _ _).of_mem (finish_mem _ _)
  | _ => exact h.of_mem (by simp)

theorem deviceInvariant_memoryForm : DeviceInvariant State.MemoryForm where
  congr h _ _ _ hm := h.of_mem hm
  reset := ⟨Memory.wf_nil, nofun⟩
  putByte v hk h := h.of_writeBytes (bs := [v]) rfl hk
  badOpcode h := h.of_mem (finish_mem _ _)
  exec h he := (ExecResult.of_exec he).memoryForm h

/-! ### STATUS and ERRCODE -/

theorem State.StatusForm.congr (h : s.StatusForm) (hs : t.status = s.status) (he : t.errcode = s.errcode) :
    t.StatusForm := by
  obtain ⟨hr, hc, hk, hy⟩ := h
  constructor <;> simp only [State.flag, hs, he] at * <;> assumption

/-- An operation's end records its code in STICKY_ERR, whatever it was before (R29, R91). -/
theorem stickyErr_of_finish {c : ErrCode} (h : (finish c s).errcode ≠ 0x00) : (finish c s).flag .stickyErr = true := by
  have hc : c ≠ .none := by rintro rfl; exact h (finish_errcode s .none)
  simp [finish_flag, hc]

/-- What `finish` leaves has the form, as far as ERRCODE and STICKY_ERR go (R29, R190). -/
theorem State.StatusForm.of_finish {c : ErrCode} (hr : (finish c s).status >>> 5 = 0#8)
    (hc : ¬ ((finish c s).flag .chkValid = true ∧ (finish c s).flag .chkMismatch = true)) :
    (finish c s).StatusForm where
  reserved := hr
  errcode := finish_errcode s c ▸ c.code_le
  chk := hc
  sticky := stickyErr_of_finish

/-- Every operation but CLR_ERR ends in `finish` (R91). -/
theorem ExecResult.exists_eq_finish {i : Instr} (h : ExecResult s i t) (hi : i ≠ .clrErr) : ∃ c u, t = finish c u := by
  cases h with
  | clrErr => exact absurd rfl hi
  | _ => exact ⟨_, _, rfl⟩

/-- No operation writes the reserved bits of STATUS (R30). -/
theorem ExecResult.status_reserved {i : Instr} (h : ExecResult s i t) : t.status >>> 5 = s.status >>> 5 := by
  ext j hj
  simp only [← BitVec.getLsbD_eq_getElem, BitVec.getLsbD_ushiftRight]
  by_cases hb : 5 + j < 8
  · exact h.keepsAllBut.status _ hb fun f _ => by have := f.bit_lt; omega
  · rw [BitVec.getLsbD_of_ge _ _ (by omega), BitVec.getLsbD_of_ge _ _ (by omega)]

theorem exec_statusForm {i : Instr} (h : s.StatusForm) (he : exec i s = .next t) : t.StatusForm := by
  have hr := ExecResult.of_exec he
  have hchk : ¬ (t.flag .chkValid = true ∧ t.flag .chkMismatch = true) := by
    have hc := hr.chkFlags_eq
    split at hc
    · simp [hc]
    · simpa [hc] using h.chk
  by_cases hi : i = .clrErr
  · subst hi
    cases he
    exact ⟨hr.status_reserved.trans h.reserved, Nat.zero_le 4, hchk, fun hn => absurd rfl hn⟩
  · obtain ⟨c, u, rfl⟩ := hr.exists_eq_finish hi
    exact .of_finish (hr.status_reserved.trans h.reserved) hchk

theorem deviceInvariant_statusForm : DeviceInvariant State.StatusForm where
  congr h hs he _ _ := h.congr hs he
  reset := by constructor <;> decide
  putByte _ _ h := h.congr rfl rfl
  badOpcode h := .of_finish ((finish_status_reserved _ _).trans h.reserved) (by simpa [finish_flag] using h.chk)
  exec h he := exec_statusForm h he

/-! ### The telemetry field registers -/

theorem State.FieldsForm.congr (h : s.FieldsForm) (hf : t.flag .tlmValid = s.flag .tlmValid) (ht : t.tlm = s.tlm) :
    t.FieldsForm := by
  obtain ⟨hc, hj, hn, hm⟩ := h
  constructor <;> simp only [hf, ht] <;> assumption

/-- Cleared fields have the form (R27, R33). -/
theorem State.FieldsForm.of_zero (h : s.tlm = Telemetry.zero) : s.FieldsForm := by
  refine ⟨fun _ => h, ?_, ?_, ?_⟩ <;> rw [h] <;> decide

/-- Extracted fields have the form: two nibbles of one byte, and a decoded mode (R171, R172, R175). -/
theorem State.FieldsForm.of_extract {u : State} (hv : s.flag .tlmValid = true) (h : s.tlm = extractTlm u) :
    s.FieldsForm where
  cleared hf := by simp [hv] at hf
  major := by
    rw [h]
    change ((u.byte .rx 2) >>> 4).toNat < 16
    rw [BitVec.toNat_ushiftRight, Nat.shiftRight_eq_div_pow]
    omega
  minor := by
    rw [h]
    change ((u.byte .rx 2) &&& 0x0F#8).toNat < 16
    rw [BitVec.toNat_and]
    exact Nat.lt_of_le_of_lt Nat.and_le_right (by decide)
  mode := by rw [h]; rfl

theorem ExecResult.fieldsForm {i : Instr} (h : s.FieldsForm) (hr : ExecResult s i t) : t.FieldsForm := by
  by_cases hi : i = .tlmDecode
  · cases hr with
    | decoded => exact .of_extract (u := s) (by simp) (by simp)
    | cleared => exact .of_zero (by simp)
    | illegal hw => subst hi; cases hw
    | crc _ hv | payload _ hv | frame _ hv | send _ hv => subst hi; cases hv
    | mismatch _ hd => exact absurd hi hd
    | nop | clrErr | validated | kept => cases hi
  · obtain ⟨ht, hf⟩ := hr.fields_eq hi
    exact h.congr hf ht

theorem deviceInvariant_fieldsForm : DeviceInvariant State.FieldsForm where
  congr h hs _ ht _ := h.congr (by simp only [State.flag, hs]) ht
  reset := .of_zero rfl
  putByte _ _ h := h.congr rfl rfl
  badOpcode h := h.congr (by simp [finish_flag]) (finish_tlm _ _)
  exec h he := (ExecResult.of_exec he).fieldsForm h

end

/-- Settles O46: writes stay inside one buffer and keep the canonical form. -/
theorem stepKeepsMemoryForm : Obligations.StepKeepsMemoryForm := fun _ _ h ht => deviceInvariant_memoryForm.step h ht

/-- Settles O47: flags are written one at a time, and an operation ends in `finish` or in CLR_ERR. -/
theorem stepKeepsStatusForm : Obligations.StepKeepsStatusForm := fun _ _ h ht => deviceInvariant_statusForm.step h ht

/-- Settles O48: TLM_DECODE alone writes the fields, and leaves zeros or extracted ones. -/
theorem stepKeepsFieldsForm : Obligations.StepKeepsFieldsForm := fun _ _ h ht => deviceInvariant_fieldsForm.step h ht

end Sys2Proof.Machine
end

section
/-! SUPPORT. The host's reads and writes, place by place (rules R21, R52, R53), and what a written response byte does to
the host's record (R214, R218). -/

namespace Sys2Proof.Machine

/-! ### Every place of the map stands at one address -/

/-- The address of a telemetry field register (R21). -/
def TlmField.addr : TlmField → Nat
  | .fwMajor => 0x008
  | .fwMinor => 0x009
  | .fwPatch => 0x00A
  | .tempFrac => 0x00B
  | .tempInt => 0x00C
  | .pumpDuty => 0x00D
  | .pumpMode => 0x00E
  | .pumpModeRaw => 0x00F
  | .fan1RpmLo => 0x010
  | .fan1RpmHi => 0x011
  | .fan1Duty => 0x012
  | .fan2RpmLo => 0x014
  | .fan2RpmHi => 0x015
  | .fan2Duty => 0x016

/-- The address of a place of the map (R21); a reserved place has none of its own. -/
def Loc.addr? : Loc → Option Nat
  | .arg0 => some 0x000
  | .arg1 => some 0x001
  | .arg2 => some 0x002
  | .opcode => some 0x003
  | .status => some 0x004
  | .errcode => some 0x005
  | .crcRem => some 0x006
  | .tlm f => some f.addr
  | .buf b k => some (b.base + k)
  | .reserved => none

theorem addr?_locateHigh {n : Nat} (h : locateHigh n ≠ .reserved) : (locateHigh n).addr? = some n := by
  unfold locateHigh at h ⊢
  split_ifs at h ⊢
  iterate 4 · simp only [Loc.addr?, Buffer.base, Option.some.injEq]; omega
  · exact absurd rfl h

/-- What stands at an address names that address, unless it is reserved (R21). -/
theorem addr?_locate {a : Addr} (h : locate a ≠ .reserved) : (locate a).addr? = some a.toNat := by
  unfold locate at h ⊢
  split at h
  case h_8 | h_20 => exact absurd rfl h
  case h_24 => exact addr?_locateHigh h
  all_goals next hn => exact congrArg some hn.symm

/-- No two addresses show the same place, reserved ones aside (R21). -/
theorem locate_inj {a b : Addr} (h : locate a = locate b) (hr : locate a ≠ .reserved) : a = b := by
  have hb : some b.toNat = some a.toNat := by rw [← addr?_locate (h ▸ hr), ← h, addr?_locate hr]
  exact BitVec.eq_of_toNat_eq (Option.some.inj hb).symm

/-- Byte `k` of a buffer stands at the buffer's base plus `k` and nowhere else (R21). -/
theorem toNat_of_locate_buf {a : Addr} {b : Buffer} {k : Nat} (h : locate a = .buf b k) : a.toNat = b.base + k := by
  have ha := addr?_locate (a := a) (by rw [h]; nofun)
  rw [h] at ha
  exact (Option.some.inj ha).symm

/-- RX_BUF stands at 0x080 to 0x0BF (R21). -/
theorem locate_rx {a : Addr} (h₁ : 0x080 ≤ a) (h₂ : a < 0x0C0) : locate a = .buf .rx (a.toNat - 0x080) := by
  have hk : a.toNat - 0x080 < Buffer.rx.size := by simp only [Buffer.size]; bv_omega
  have ha : Buffer.rx.base + (a.toNat - 0x080) = a.toNat := by simp only [Buffer.base]; bv_omega
  rw [locate_of_ge (by bv_omega), ← locateHigh_buf hk, ha]

/-! ### A host access, place by place -/

/-- The places whose byte a host write replaces (R53): RW registers and buffers. -/
def Loc.stores : Loc → Bool
  | .arg0 | .arg1 | .arg2 | .opcode => true
  | .buf b _ => b.hostWritable
  | .status | .errcode | .crcRem | .tlm _ | .reserved => false

theorem stores_locateHigh {n : Nat} :
    (locateHigh n).stores = true ↔ (0x080 ≤ n ∧ n ≤ 0x0FB) ∨ (0x100 ≤ n ∧ n ≤ 0x12F) := by
  unfold locateHigh
  split_ifs
  all_goals simp only [Loc.stores, Buffer.hostWritable, Bool.false_eq_true, false_iff, true_iff]
  all_goals omega

/-- The RW addresses of the map (R21, R53). -/
theorem stores_locate {a : Addr} : (locate a).stores = true ↔
    a ≤ 0x003 ∨ (0x080 ≤ a ∧ a ≤ 0x0FB) ∨ (0x100 ≤ a ∧ a ≤ 0x12F) := by
  unfold locate
  split
  case h_24 =>
    simp only [imp_false] at *
    rw [stores_locateHigh]
    bv_omega
  all_goals
    simp only [Loc.stores, Bool.false_eq_true, false_iff, true_iff]
    bv_omega

section
variable {s : State} {l l' : Loc} {v : Byte}

theorem State.writeLoc_buf {b : Buffer} {k : Nat} :
    s.writeLoc (.buf b k) v = if b.hostWritable then s.putByte b k v else s := rfl

/-- A host write to a read-only or reserved place is ignored (R53). -/
theorem State.writeLoc_of_not_stores (h : l.stores = false) : s.writeLoc l v = s := by
  cases l with
  | arg0 | arg1 | arg2 | opcode => cases h
  | buf b k => exact if_neg (by simpa [Loc.stores] using h)
  | status | errcode | crcRem | tlm | reserved => rfl

@[simp] theorem State.writeLoc_draws : (s.writeLoc l v).draws = s.draws := by
  cases l with
  | buf b k => rw [State.writeLoc_buf]; split <;> rfl
  | _ => rfl

@[simp] theorem State.writeLoc_host : (s.writeLoc l v).host = s.host := by
  cases l with
  | buf b k => rw [State.writeLoc_buf]; split <;> rfl
  | _ => rfl

theorem State.readLoc_writeLoc_same (h : l.stores = true) : (s.writeLoc l v).readLoc l = v := by
  cases l with
  | arg0 | arg1 | arg2 | opcode => rfl
  | buf b k =>
    have hw : s.writeLoc (.buf b k) v = s.putByte b k v := if_pos h
    simp [hw, State.readLoc, State.byte, Memory.read_write]
  | status | errcode | crcRem | tlm | reserved => cases h

/-- A write to one place of the map leaves every other as it was. -/
theorem State.readLoc_writeLoc_ne (hl : ∀ b k, l = .buf b k → k < b.size) (hl' : ∀ b k, l' = .buf b k → k < b.size)
    (h : l' ≠ l) : (s.writeLoc l v).readLoc l' = s.readLoc l' := by
  cases l with
  | arg0 | arg1 | arg2 | opcode =>
    cases l' <;> simp_all [State.writeLoc, State.readLoc, State.byte]
  | buf b k =>
    rw [State.writeLoc_buf]
    split
    · cases l' with
      | buf c j =>
        have hne : ¬ (c = b ∧ j = k) := by rintro ⟨rfl, rfl⟩; exact h rfl
        exact (s.byte_putByte b c k j v (hl b k rfl) (hl' c j rfl)).trans (if_neg hne)
      | _ => rfl
    · rfl
  | status | errcode | crcRem | tlm | reserved => rfl

/-- No address shows the host's side. -/
theorem busRead_setHost (a : Addr) (s : State) (h : HostSide) : busRead a { s with host := h } = busRead a s := by
  unfold busRead
  cases locate a <;> rfl

@[simp] theorem busRead_popEvent (a : Addr) (rest : List HostEvent) : busRead a (s.popEvent rest) = busRead a s :=
  busRead_setHost a s _

@[simp] theorem busRead_logRead (a : Addr) : busRead a (s.logRead v) = busRead a s := busRead_setHost a s _

@[simp] theorem busRead_noteResponse (a : Addr) (k : Nat) : busRead a (s.noteResponse k) = busRead a s := by
  rw [State.noteResponse_eq, busRead_setHost]

theorem busRead_writeLoc_same {a : Addr} (h : (locate a).stores = true) :
    busRead a (s.writeLoc (locate a) v) = v := State.readLoc_writeLoc_same h

/-- A host write shows at its own address alone (R53). -/
theorem busRead_writeLoc_ne {a b : Addr} (h : b ≠ a) : busRead b (s.writeLoc (locate a) v) = busRead b s := by
  by_cases hr : locate a = .reserved
  · rw [hr]; rfl
  · exact State.readLoc_writeLoc_ne (fun _ _ => lt_size_of_locate) (fun _ _ => lt_size_of_locate)
      fun e => h (locate_inj e.symm hr).symm

/-- The next event takes effect on the state without it (R221). -/
theorem step_of_pending {e : HostEvent} {rest : List HostEvent} (h : s.host.pending = e :: rest) :
    step s = hostAct e (s.popEvent rest) := by
  unfold step; rw [h]

theorem hostWrite_rx {a : Addr} {k : Nat} (h : locate a = .buf .rx k) :
    hostWrite a v s = .next ((s.writeLoc (locate a) v).noteResponse k) := by
  unfold hostWrite; rw [h]

/-- A host write to any place but OPCODE and RX_BUF is the byte's store alone (R53). -/
theorem hostWrite_of_ne {a : Addr} (ho : locate a ≠ .opcode) (hrx : ∀ k, locate a ≠ .buf .rx k) :
    hostWrite a v s = .next (s.writeLoc (locate a) v) := by
  unfold hostWrite
  split
  next k hk => exact absurd hk (hrx k)
  next =>
    unfold busWrite
    split
    next h => exact absurd h ho
    next => rfl

end

/-- Settles O8: the read is recorded on the host's side, which no address shows. -/
theorem hostReadHasNoSideEffect : Obligations.HostReadHasNoSideEffect := by
  intro s a rest h
  refine ⟨(s.popEvent rest).logRead (busRead a (s.popEvent rest)), step_of_pending h, ?_, fun b => by simp⟩
  rw [busRead_popEvent]
  rfl

/-- Settles O10: the address is none of the RW addresses, so the write is ignored. -/
theorem ignoredWritesChangeNothing : Obligations.IgnoredWritesChangeNothing := by
  intro s a v rest h ha
  have hs : (locate a).stores = false := by
    rw [Bool.eq_false_iff, ne_eq, stores_locate]
    bv_omega
  have ho : locate a ≠ .opcode := fun e => by simp [e, Loc.stores] at hs
  have hrx (k : Nat) : locate a ≠ .buf .rx k := fun e => by simp [e, Loc.stores, Buffer.hostWritable] at hs
  calc step s = hostWrite a v (s.popEvent rest) := step_of_pending h
    _ = .next ((s.popEvent rest).writeLoc (locate a) v) := hostWrite_of_ne ho hrx
    _ = .next (s.popEvent rest) := by rw [State.writeLoc_of_not_stores hs]

/-! ### A byte of an awaited response -/

/-- Rule R172's decoding, with the code for Balanced as the default. -/
theorem pumpModeDecode_eq (b : Byte) :
    pumpModeDecode b = if b = 0x00 then 0x00 else if b = 0x02 then 0x02 else 0x01 := by
  unfold pumpModeDecode
  by_cases h₁ : b = 0x01
  · subst h₁; rfl
  · rw [if_neg h₁]; rfl

@[simp] theorem State.byte_noteResponse (s : State) (b : Buffer) (j k : Nat) :
    (s.noteResponse k).byte b j = s.byte b j := State.byte_of_mem (s.noteResponse_mem k) b j

theorem rxMatches_noteResponse (s : State) (k : Nat) : rxMatches (s.noteResponse k) ↔ rxMatches s := by
  simp [rxMatches, bufferSum]

theorem State.noteResponse_of_none {s : State} (h : s.host.awaited = none) (k : Nat) : s.noteResponse k = s := by
  unfold State.noteResponse
  rw [h]

/-- A response byte noted (R214, R218): with the last one the record closes, and a valid RX_BUF teaches its pump mode;
before, one byte fewer is awaited. -/
theorem State.noteResponse_record {s : State} {k : Nat} {ks : List Nat} (h : s.host.awaited = some ks) :
    if ∀ j ∈ ks, j = k then
      (s.noteResponse k).host.awaited = none ∧
      (rxMatches s → (s.noteResponse k).host.learntMode = some (pumpModeDecode (s.byte .rx 24))) ∧
      (¬ rxMatches s → (s.noteResponse k).host.learntMode = s.host.learntMode)
    else (s.noteResponse k).host.awaited = some (ks.filter fun j => j ≠ k) ∧
      (s.noteResponse k).host.learntMode = s.host.learntMode := by
  rcases s.noteResponse_cases k with ⟨hn, _⟩ | ⟨_, hs, ⟨j, hj, hjk⟩, e⟩ | ⟨_, hs, hall, e⟩
  · cases hn.symm.trans h
  · cases hs.symm.trans h
    rw [if_neg fun hall => hjk (hall j hj), e]
    exact ⟨congrArg some (List.filter_congr fun _ _ => decide_not.symm), rfl⟩
  · cases hs.symm.trans h
    rw [if_pos hall, e]
    exact ⟨rfl, fun hm => if_pos ((rxValid_iff s).2 hm), fun hm => if_neg (mt (rxValid_iff s).1 hm)⟩

/-- Settles O11: the byte is stored at its own address, and a byte of RX_BUF is noted as a response byte besides. -/
theorem storedWritesReachOneByte : Obligations.StoredWritesReachOneByte := by
  intro s a v rest h ha
  have hs : (locate a).stores = true := stores_locate.2 (by bv_omega)
  have hstep : step s = hostWrite a v (s.popEvent rest) := step_of_pending h
  generalize hu : (s.popEvent rest).writeLoc (locate a) v = u
  have hread : busRead a u = v := hu ▸ busRead_writeLoc_same hs
  have hkept (b : Addr) (hb : b ≠ a) : busRead b u = busRead b s := by
    rw [← hu, busRead_writeLoc_ne hb, busRead_popEvent]
  have hdraws : u.draws = s.draws := by rw [← hu, State.writeLoc_draws, State.popEvent_draws]
  have hhost : u.host = { s.host with pending := rest } := by rw [← hu, State.writeLoc_host]; rfl
  by_cases hrx : ∃ k, locate a = .buf .rx k
  · obtain ⟨k, hk⟩ := hrx
    have hlt : k < 64 := lt_size_of_locate hk
    have hadr : a.toNat = 0x080 + k := toNat_of_locate_buf hk
    refine ⟨u.noteResponse k, hu ▸ hstep.trans (hostWrite_rx hk), by rwa [busRead_noteResponse],
      fun b hb => by rw [busRead_noteResponse, hkept b hb], by rwa [State.noteResponse_draws],
      by rw [u.noteResponse_eq, hhost], fun hn => ?_, fun ks _ _ hks => ?_⟩
    · have hnone : s.host.awaited = none := (hn.resolve_left (by bv_omega)).resolve_left (by bv_omega)
      rw [State.noteResponse_of_none (by rw [hhost, hnone]), hhost]
      exact ⟨rfl, rfl⟩
    · have hrec := State.noteResponse_record (s := u) (k := k) (ks := ks) (by rw [hhost, hks])
      simpa only [rxMatches_noteResponse, State.byte_noteResponse, hadr, Nat.add_left_cancel_iff, ← pumpModeDecode_eq,
        hhost, ne_eq] using hrec
  · have ho : locate a ≠ .opcode := fun e => by
      have ha₃ : a = 0x003 := locate_inj e (by rw [e]; nofun)
      bv_omega
    refine ⟨u, hu ▸ hstep.trans (hostWrite_of_ne ho (not_exists.1 hrx)), hread, hkept, hdraws, ?_, fun _ => ?_,
      fun _ h₁ h₂ => absurd ⟨_, locate_rx h₁ h₂⟩ hrx⟩
    · rw [hhost]
    · rw [hhost]
      exact ⟨rfl, rfl⟩

end Sys2Proof.Machine
end

section
/-! SUPPORT. The encoding, said once per direction: what an encoded operation decodes to, and which bytes a decoded one
came from (rules R70 to R76). -/

namespace Sys2Proof.Machine

/-- An operation's own operand bytes and opcode decode to it (R75). -/
@[simp] theorem decodeOp_operandsOf (i : Instr) :
    decodeOp (operandsOf i).1 (operandsOf i).2.1 (operandsOf i).2.2 (opcodeOf i) = .ok i := by
  cases i with
  | frameEncode cmd featEn rsvA1 feat rsvA2 plEn =>
    exact congrArg Except.ok (decodeFrameEncode_fields cmd featEn rsvA1 feat rsvA2 plEn)
  | _ => rfl

/-- A command word's bytes decode as its operands and opcode do, and the bytes after it are left (R70). -/
theorem decode_encode_append (i : Instr) (rest : List Byte) : decode (encode i ++ rest) = .ok (i, rest) := by
  simp [encode, decode]

/-- One bit of a byte is its field of width 1. -/
theorem ofBool_getLsbD (x : Byte) (k : Nat) : BitVec.ofBool (x.getLsbD k) = x.extractLsb' k 1 := by
  ext j hj
  obtain rfl : j = 0 := by omega
  simp

/-- FRAME_ENCODE's fields, put together again, are the operand bytes they were taken from (R72). -/
theorem operandsOf_decodeFrameEncode (a0 a1 a2 : Byte) : operandsOf (decodeFrameEncode a0 a1 a2) = (a0, a1, a2) := by
  have h1 : BitVec.ofBool (a1.getLsbD 7) ++ a1.extractLsb' 3 4 ++ a1.extractLsb' 0 3 = a1 := by
    rw [ofBool_getLsbD, BitVec.extractLsb'_append_extractLsb'_eq_extractLsb' (show 7 = 3 + 4 from rfl),
      BitVec.extractLsb'_append_extractLsb'_eq_extractLsb' (show 3 = 0 + 3 from rfl), BitVec.extractLsb'_eq_self]
  have h2 : a2.extractLsb' 1 7 ++ BitVec.ofBool (a2.getLsbD 0) = a2 := by
    rw [ofBool_getLsbD, BitVec.extractLsb'_append_extractLsb'_eq_extractLsb' (show 1 = 0 + 1 from rfl),
      BitVec.extractLsb'_eq_self]
  exact congrArg (Prod.mk a0) (congrArg₂ Prod.mk h1 h2)

/-- FRAME_ENCODE's fields as numbers taken from its operand bytes (R72). -/
theorem decodeFrameEncode_toNat (a0 a1 a2 : Byte) :
    decodeFrameEncode a0 a1 a2 = .frameEncode a0 (a1.getLsbD 7) (BitVec.ofNat 4 (a1.toNat / 8))
      (BitVec.ofNat 3 a1.toNat) (BitVec.ofNat 7 (a2.toNat / 2)) (a2.getLsbD 0) := by
  simp [decodeFrameEncode, BitVec.extractLsb', Nat.shiftRight_eq_div_pow]

/-- The opcode map's row for FRAME_ENCODE, its fields as numbers (R72, R75). -/
theorem decodeOp_frameEncode (a0 a1 a2 : Byte) :
    decodeOp a0 a1 a2 0x10 = .ok (.frameEncode a0 (a1.getLsbD 7) (BitVec.ofNat 4 (a1.toNat / 8))
      (BitVec.ofNat 3 a1.toNat) (BitVec.ofNat 7 (a2.toNat / 2)) (a2.getLsbD 0)) :=
  congrArg Except.ok (decodeFrameEncode_toNat a0 a1 a2)

section
variable {a0 a1 a2 op : Byte}

/-- What a decoded operation was issued as: its opcode, and each operand byte that it uses (R70, R71, R75). -/
theorem issued_of_decodeOp {i : Instr} (h : decodeOp a0 a1 a2 op = .ok i) :
    opcodeOf i = op ∧ ((operandsUsed i).1 = true → (operandsOf i).1 = a0) ∧
    ((operandsUsed i).2.1 = true → (operandsOf i).2.1 = a1) ∧
    ((operandsUsed i).2.2 = true → (operandsOf i).2.2 = a2) := by
  unfold decodeOp at h
  split at h
  case h_7 hop =>
    cases h
    rw [operandsOf_decodeFrameEncode]
    exact ⟨BitVec.eq_of_toNat_eq hop.symm, fun _ => rfl, fun _ => rfl, fun _ => rfl⟩
  case h_21 => cases h
  all_goals
    next hop =>
      cases h
      exact ⟨BitVec.eq_of_toNat_eq hop.symm, by simp [operandsUsed, operandsOf]⟩

/-- The only rejection of a whole command word is its opcode (R76). -/
theorem eq_badOpcode_of_decodeOp {e : DecodeError} (h : decodeOp a0 a1 a2 op = .error e) : e = .badOpcode op := by
  unfold decodeOp at h
  split at h
  case h_21 => cases h; rfl
  all_goals cases h

theorem opcodeOf_mem_definedOpcodes (i : Instr) : opcodeOf i ∈ definedOpcodes := by
  cases i <;> simp [opcodeOf, definedOpcodes]

/-- An opcode that the map does not list is rejected by name, whatever the operand bytes (R75, R76). -/
theorem decodeOp_of_undefined (h : op ∉ definedOpcodes) : decodeOp a0 a1 a2 op = .error (.badOpcode op) := by
  cases hd : decodeOp a0 a1 a2 op with
  | ok i => exact absurd ((issued_of_decodeOp hd).1 ▸ opcodeOf_mem_definedOpcodes i) h
  | error e => rw [eq_badOpcode_of_decodeOp hd]

end

/-- Settles O1: the command word's bytes are the operands and the opcode, and those decode to the operation. -/
theorem decodeInvertsEncode : Obligations.DecodeInvertsEncode := decode_encode_append

/-- Settles O3, row by row of the opcode map. -/
theorem decodedOperandsAreTheIssuedBytes : Obligations.DecodedOperandsAreTheIssuedBytes :=
  fun _ _ _ _ _ => issued_of_decodeOp

/-- Settles O2: twenty rows, and the opcodes outside them. -/
theorem opcodeMapIsTheTable : Obligations.OpcodeMapIsTheTable := fun a0 a1 a2 =>
  ⟨rfl, rfl, rfl, rfl, rfl, rfl, decodeOp_frameEncode a0 a1 a2, rfl, rfl, rfl, rfl, rfl, rfl, rfl, rfl, rfl, rfl, rfl,
    rfl, rfl, fun _ => decodeOp_of_undefined⟩

/-- Settles O4: each word's own bits name its row and its operands. -/
theorem sampleCommandWordsDecode : Obligations.SampleCommandWordsDecode := by
  unfold Obligations.SampleCommandWordsDecode
  decide

end Sys2Proof.Machine
end

section
/-! SUPPORT. The host's statement for an operation: its four writes, and the operation they perform (rules R80, R90). -/

namespace Sys2Proof.Machine

/-- Command registers that hold an operation's command word perform that operation (R70, R90). -/
theorem perform_of_commandBytes {s : State} {i : Instr} (h : s.commandBytes = encode i) : perform s = exec i s := by
  have hd : decode s.commandBytes = .ok (i, []) := by rw [h, ← List.append_nil (encode i), decode_encode_append]
  unfold perform
  rw [hd]

/-- Settles O59: three writes place the operands, and the fourth issues the command word. -/
theorem issueSequenceRunsTheOperation : Obligations.IssueSequenceRunsTheOperation := by
  intro s i rest h
  have h₁ : step s = .next ((s.popEvent _).writeLoc .arg0 (operandsOf i).1) := step_of_pending h
  exact ⟨_, _, _, h₁, rfl, rfl, perform_of_commandBytes rfl⟩

end Sys2Proof.Machine
end

section
/-! SUPPORT. What an operation with illegal operands does, and CRC_BUF's sum over a range of a buffer (rules R72, R73,
R107, R193). -/

namespace Sys2Proof.Machine

/-- An operation whose operands are not legal records its error and does nothing else (R193). -/
theorem exec_of_illegal {i : Instr} (s : State) (h : i.wellFormed = false) :
    exec i s = .next (finish (operandError i) s) := by
  obtain ⟨t, ht, hr⟩ := exists_result i s
  cases hr with
  | illegal => exact ht
  | crc hw | payload hw | frame hw | send hw => exact absurd (hw.symm.trans h) (by decide)
  | mismatch hv => exact absurd ((wellFormed_of_validates hv).symm.trans h) (by decide)
  | nop | clrErr | validated | decoded | kept | cleared => cases h

/-- What recording an error changes: ERRCODE and STICKY_ERR, and nothing else (R91, R193). -/
theorem exists_error_of_illegal {i : Instr} (s : State) (h : i.wellFormed = false) :
    ∃ t, exec i s = .next t ∧ t.errcode = (operandError i).code ∧ t.flag .stickyErr = true ∧ t.crcRem = s.crcRem ∧
      t.tlm = s.tlm ∧ t.draws = s.draws ∧ KeepsAllBut [.stickyErr] [] s t :=
  ⟨finish (operandError i) s, exec_of_illegal s h, finish_errcode s _, by simp [finish_flag], finish_crcRem s _,
    finish_tlm s _, finish_draws s _, .finish [] s _ (.inr (List.mem_singleton.2 rfl))⟩

/-- The buffers in the order SEL numbers them (R73). -/
theorem selBuffer_eq_getElem? (sel : Byte) : selBuffer sel = [Buffer.tx, .rx, .payload, .led][sel.toNat]? := by
  unfold selBuffer
  generalize sel.toNat = n
  match n with
  | 0 | 1 | 2 | 3 | _ + 4 => rfl

/-- CRC_BUF within a buffer: the checksum of those bytes (R107). -/
theorem execCrcBuf_of_fits {sel start len : Byte} {b : Buffer} (s : State) (hb : selBuffer sel = some b)
    (hr : start.toNat + len.toNat ≤ b.size) :
    execCrcBuf sel start len s = .next (finish .none (s.putCrc (bufferSum s b start.toNat len.toNat))) := by
  have hfit : rangeFits start len b = true := decide_eq_true hr
  simp only [execCrcBuf, hb, hfit, if_true, bufferSum_eq_slice s b _ _ hr]
  rfl

/-- Settles O17: the range that fits is summed; the two errors are CRC_BUF's illegal operands. -/
theorem crcBufSumsTheRange : Obligations.CrcBufSumsTheRange := by
  refine ⟨fun _ _ _ => rfl, fun s b sel start len hb hr => ?_, fun s sel start len h => ?_⟩
  · rw [← selBuffer_eq_getElem?] at hb
    exact ⟨_, execCrcBuf_of_fits s hb hr, by simp, by simp, by simp, by simp,
      (KeepsAllBut.putCrc [] [] s _).trans (.finish [] _ .none (.inl rfl))⟩
  · have hw : (Instr.crcBuf sel start len).wellFormed = false := by
      rcases h with h | ⟨b, hb, hr⟩
      · exact crcRangeWf_of_none start len (selBuffer_eq_none.2 h)
      · rw [← selBuffer_eq_getElem?] at hb
        exact (crcRangeWf_of_some start len hb).trans (decide_eq_false (Nat.not_le.2 hr))
    have hc : (operandError (.crcBuf sel start len)).code = if 4 ≤ sel.toNat then 0x02 else 0x03 := by
      by_cases h4 : 4 ≤ sel.toNat <;> simp [operandError, h4, ErrCode.code, Nat.not_lt.2, Nat.lt_of_not_le]
    exact hc ▸ exists_error_of_illegal s hw

end Sys2Proof.Machine
end

section
/-! SUPPORT. The frames of `encode_frame` byte by byte, and FRAME_ENCODE (rules R72, R78, R121, R122). -/

namespace Sys2Proof.Machine

/-- The payload bytes a frame carries (R78). -/
theorem State.getD_framePayload (s : State) (ple : Bool) {k : Nat} (hk : k < 60) :
    (s.framePayload ple).getD k 0 = if ple then s.byte .payload k else 0x00 := by
  cases ple with
  | true => exact s.getD_bytes .payload k hk
  | false => simp [State.framePayload, zeros, Config.payloadLen, hk, -List.reduceReplicate]

section
variable (n cmd : Byte) (feat : BitVec 3) {pl : List Byte} {k : Nat}

/-- A Form A frame carries its payload from byte 2 (R78). -/
theorem getD_frameBytes_formA (hk : k < pl.length) : (frameBytes n cmd false feat pl).getD (2 + k) 0 = pl.getD k 0 := by
  rw [Nat.add_comm]
  simp [frameBytes, frameBody, List.getD_eq_getElem?_getD, List.getElem?_append_left hk]

/-- Byte 62 of a Form A frame is 0x00 (R78). -/
theorem getD_frameBytes_pad (h : pl.length = 60) : (frameBytes n cmd false feat pl).getD 62 0 = 0x00 := by
  simp [frameBytes, frameBody, List.getD_eq_getElem?_getD, h]

/-- A Form B frame carries its payload from byte 3 (R78). -/
theorem getD_frameBytes_formB (hk : k < pl.length) : (frameBytes n cmd true feat pl).getD (3 + k) 0 = pl.getD k 0 := by
  rw [Nat.add_comm]
  simp [frameBytes, frameBody, List.getD_eq_getElem?_getD, List.getElem?_append_left hk]

end

/-- A frame is valid where its byte 63 is the checksum of bytes 1 to 62 (R123). -/
theorem frameValid_tx_iff (s : State) : frameValid (s.bytes .tx) = true ↔ bufferSum s .tx 1 62 = s.byte .tx 63 := by
  rw [frameValid, beq_iff_eq, trailer, s.getD_bytes .tx 63 (by decide), bufferSum_eq_slice s .tx 1 62 (by decide)]
  rfl

section
variable (cmd : Byte) (fe : Bool) (feat : BitVec 3) (ple : Bool) (s : State)

/-- A byte of TX_BUF after `encode_frame`. -/
theorem encodeFrame_byte_tx {k : Nat} (hk : k < 64) : (encodeFrame cmd fe feat ple s).byte .tx k =
    (frameBytes s.nextNonce cmd fe feat (s.framePayload ple)).getD k 0 := encodeFrame_byte cmd fe feat ple s .tx k hk

/-- The frame built in TX_BUF ends in its own checksum (R121, R126). -/
theorem encodeFrame_checksum :
    (encodeFrame cmd fe feat ple s).byte .tx 63 = bufferSum (encodeFrame cmd fe feat ple s) .tx 1 62 := by
  refine ((frameValid_tx_iff _).1 ?_).symm
  rw [encodeFrame_bytes]
  exact frameValid_frameBytes _ _ _ _ _ (s.framePayload_length ple)

/-- CRC_REM is left at the built frame's checksum byte (R121). -/
theorem encodeFrame_remainder :
    (encodeFrame cmd fe feat ple s).crcRem = (encodeFrame cmd fe feat ple s).byte .tx 63 :=
  (encodeFrame_byte_tx cmd fe feat ple s (by decide)).symm

/-- A payload byte of TX_BUF after `encode_frame`, where the frame carries it from byte `o`. -/
theorem encodeFrame_payload {o k : Nat} (hk : k < 60) (ho : o + k < 64)
    (h : ∀ (n : Byte) {pl : List Byte}, k < pl.length → (frameBytes n cmd fe feat pl).getD (o + k) 0 = pl.getD k 0) :
    (encodeFrame cmd fe feat ple s).byte .tx (o + k) = if ple then s.byte .payload k else 0x00 := by
  have hl : k < (s.framePayload ple).length := by rw [s.framePayload_length]; exact hk
  rw [encodeFrame_byte_tx cmd fe feat ple s ho, h _ hl, s.getD_framePayload ple hk]

/-- Without a feature `encode_frame` builds a Form A frame (R78, R121). -/
theorem encodeFrame_formA : FormA (encodeFrame cmd false feat ple s) (Config.nonce s.draws ||| cmd)
    (fun k => if ple then s.byte .payload k else 0x00) where
  marker := encodeFrame_byte_tx cmd false feat ple s (by decide)
  code := encodeFrame_byte_tx cmd false feat ple s (by decide)
  payload k hk := encodeFrame_payload cmd false feat ple s hk (by omega) fun n _ => getD_frameBytes_formA n cmd feat
  pad := (encodeFrame_byte_tx cmd false feat ple s (by decide)).trans
    (getD_frameBytes_pad _ cmd feat (s.framePayload_length ple))
  checksum := encodeFrame_checksum cmd false feat ple s
  remainder := encodeFrame_remainder cmd false feat ple s

/-- With a feature `encode_frame` builds a Form B frame (R78, R121). -/
theorem encodeFrame_formB : FormB (encodeFrame cmd true feat ple s) (Config.nonce s.draws ||| feat.setWidth 8) cmd
    (fun k => if ple then s.byte .payload k else 0x00) where
  marker := encodeFrame_byte_tx cmd true feat ple s (by decide)
  code := encodeFrame_byte_tx cmd true feat ple s (by decide)
  command := encodeFrame_byte_tx cmd true feat ple s (by decide)
  payload k hk := encodeFrame_payload cmd true feat ple s hk (by omega) fun n _ => getD_frameBytes_formB n cmd feat
  checksum := encodeFrame_checksum cmd true feat ple s
  remainder := encodeFrame_remainder cmd true feat ple s

end

@[simp] theorem finish_bufferSum (c : ErrCode) (s : State) (b : Buffer) (start len : Nat) :
    bufferSum (finish c s) b start len = bufferSum s b start len := by simp [bufferSum]

section
variable {t : State} {b1 cmd : Byte} {p : Nat → Byte}

/-- An operation's end leaves the frame in TX_BUF and its checksum as they are (R91). -/
theorem FormA.finish (h : FormA t b1 p) (c : ErrCode) : FormA (finish c t) b1 p := by
  obtain ⟨hm, hc, hp, hz, hs, hr⟩ := h
  constructor <;> simpa

theorem FormB.finish (h : FormB t b1 cmd p) (c : ErrCode) : FormB (finish c t) b1 cmd p := by
  obtain ⟨hm, hc, hd, hp, hs, hr⟩ := h
  constructor <;> simpa

end

/-- What `encode_frame` changes when it ends an operation without an error: TX_BUF and LIGHT_TX (R121, R122). -/
theorem KeepsAllBut.finish_encodeFrame (cmd : Byte) (fe : Bool) (feat : BitVec 3) (ple : Bool) (s : State) :
    KeepsAllBut [.lightTx] [.tx] s (Machine.finish .none (Machine.encodeFrame cmd fe feat ple s)) :=
  (KeepsAllBut.encodeFrame cmd fe feat ple s (by decide) (by decide)).trans (.finish _ _ _ (.inl rfl))

/-- Settles O18: both forms by the bytes of `encode_frame`, a reserved bit as an illegal operand. -/
theorem frameEncodeBuildsBothForms : Obligations.FrameEncodeBuildsBothForms := by
  refine ⟨decodeOp_frameEncode, fun s cmd feat ple => ?_, fun s cmd feat ple => ?_,
    fun s cmd fe r1 feat r2 ple hr => ?_⟩
  · refine ⟨_, rfl, (encodeFrame_formA cmd feat ple s).finish .none, ?_, by simp, by simp, by simp,
      .finish_encodeFrame cmd false feat ple s⟩
    simp [isLighting, Config.lightCode, Bool.beq_eq_decide_eq]
  · exact ⟨_, rfl, (encodeFrame_formB cmd feat ple s).finish .none, by simp [isLighting], by simp, by simp, by simp,
      .finish_encodeFrame cmd true feat ple s⟩
  · have hw : (Instr.frameEncode cmd fe r1 feat r2 ple).wellFormed = false := by
      simpa [Instr.wellFormed, reservedWf, Decidable.or_iff_not_imp_left] using hr
    exact exists_error_of_illegal s hw

end Sys2Proof.Machine
end

section
/-! SUPPORT. Issuing an operation (rules R90, R94), and NOP and CLR_ERR (rules R92, R93). -/

namespace Sys2Proof.Machine

/-! ### The host's write to OPCODE -/

section
variable {s : State}

/-- The next step of a host about to write OPCODE is the issue itself (R90). -/
theorem step_issue {v : Byte} {rest : List HostEvent} (h : s.host.pending = .sb 0x003 v :: rest) :
    step s = issue v (s.popEvent rest) := step_of_pending h

/-- Command registers that decode to an operation perform it (R70, R90). -/
theorem perform_of_decodeOp {i : Instr} (h : decodeOp s.arg0 s.arg1 s.arg2 s.opcode = .ok i) :
    perform s = exec i s := by
  have hd : decode s.commandBytes = .ok (i, []) := by simp only [State.commandBytes, decode, h]
  unfold perform
  rw [hd]

/-- An undefined opcode in the command registers is reported, and nothing is performed (R94). -/
theorem perform_of_undefined (h : s.opcode ∉ definedOpcodes) : perform s = .next (finish .badOpcode s) := by
  have hd : decode s.commandBytes = .error (.badOpcode s.opcode) := by
    simp only [State.commandBytes, decode, decodeOp_of_undefined h]
  unfold perform
  rw [hd]
  rfl

end

/-- Settles O5: the write stores OPCODE, and the command registers then perform what they decode to. -/
theorem issueRunsTheDecodedOperation : Obligations.IssueRunsTheDecodedOperation :=
  fun _ _ _ _ hp hd => (step_issue hp).trans (perform_of_decodeOp hd)

/-! ### An error's report on the bus -/

/-- An operation's end is seen at STATUS and ERRCODE alone (R91). -/
theorem readLoc_finish (c : ErrCode) (s : State) {l : Loc} (hs : l ≠ .status) (he : l ≠ .errcode) :
    (finish c s).readLoc l = s.readLoc l := by
  cases l with
  | status => exact absurd rfl hs
  | errcode => exact absurd rfl he
  | _ => simp [State.readLoc]

theorem busRead_finish (c : ErrCode) (s : State) {a : Addr} (hs : a ≠ 0x004) (he : a ≠ 0x005) :
    busRead a (finish c s) = busRead a s :=
  readLoc_finish c s (fun h => hs (locate_inj h (by rw [h]; nofun))) fun h => he (locate_inj h (by rw [h]; nofun))

/-- Settles O6: the step is the write to OPCODE and then the report of BAD_OPCODE. -/
theorem undefinedOpcodeOnlyRecordsBadOpcode : Obligations.UndefinedOpcodeOnlyRecordsBadOpcode := by
  intro s v rest hp hv
  let u : State := (s.popEvent rest).writeLoc .opcode v
  have hkept (a : Addr) (ha : a ≠ 0x003) : busRead a u = busRead a s :=
    (busRead_writeLoc_ne (a := 0x003) ha).trans (busRead_popEvent a rest)
  exact ⟨finish .badOpcode u, (step_issue hp).trans (perform_of_undefined hv), finish_opcode u _, finish_errcode u _,
    by simp [finish_flag], fun k hk h4 => finish_status_bit _ u k hk h4,
    fun a h3 h4 h5 => (busRead_finish _ u h4 h5).trans (hkept a h3), finish_draws u _, finish_host u _⟩

/-! ### NOP and CLR_ERR -/

/-- Settles O14: NOP is `finish` with no error. -/
theorem nopClearsOnlyErrcode : Obligations.NopClearsOnlyErrcode :=
  ⟨fun _ _ _ => rfl, fun s => ⟨finish .none s, rfl, finish_errcode s _, finish_crcRem s _, finish_tlm s _,
    finish_draws s _, .finish [] s _ (.inl rfl)⟩⟩

/-- CLR_ERR leaves alone all but STICKY_ERR (R93). -/
theorem KeepsAllBut.clearErr (s : State) : KeepsAllBut [.stickyErr] [] s (clearErr s) :=
  { KeepsAllBut.putFlag [] s (f := .stickyErr) false (List.mem_singleton.2 rfl) with }

/-- Settles O15: CLR_ERR clears one flag and ERRCODE. -/
theorem clrErrClearsStickyErr : Obligations.ClrErrClearsStickyErr :=
  ⟨fun _ _ _ => rfl, fun s => ⟨clearErr s, rfl, clearErr_errcode s, clearErr_flag s .stickyErr, clearErr_crcRem s,
    clearErr_tlm s, clearErr_draws s, .clearErr s⟩⟩

end Sys2Proof.Machine
end

section
/-! SUPPORT. The laws of the checksum (rule R108), each from a round's being linear and injective, the table of the test
vectors, and CRC_INIT, CRC_BYTE and CRC_ROUND (rules R104 to R106). -/

namespace Sys2Proof.Machine

/-! ### A step and a sum are linear -/

theorem crcStep_zero_left (b : Byte) : crcStep 0#8 b = crcRounds 8 b := by rw [crcStep, BitVec.zero_xor]

@[simp] theorem crcStep_zero_zero : crcStep 0#8 0#8 = 0#8 := by rw [crcStep_zero_left, crcRounds_zero]

theorem crcStep_xor (r r' b b' : Byte) : crcStep (r ^^^ r') (b ^^^ b') = crcStep r b ^^^ crcStep r' b' := by
  have hswap : (r ^^^ r') ^^^ (b ^^^ b') = (r ^^^ b) ^^^ (r' ^^^ b') := by ac_rfl
  rw [crcStep, hswap, crcRounds_xor, crcStep, crcStep]

/-- A checksum is linear in its start and its bytes together (R108 (d)). -/
theorem foldl_crcStep_zipWith_xor {bs cs : List Byte} (h : bs.length = cs.length) (r r' : Byte) :
    (List.zipWith (· ^^^ ·) bs cs).foldl crcStep (r ^^^ r') = bs.foldl crcStep r ^^^ cs.foldl crcStep r' := by
  induction bs generalizing cs r r' with
  | nil => cases cs with
    | nil => rfl
    | cons => cases h
  | cons b bs ih => cases cs with
    | nil => cases h
    | cons c cs =>
      rw [List.zipWith_cons_cons, List.foldl_cons, crcStep_xor, ih (Nat.succ.inj h), List.foldl_cons, List.foldl_cons]

/-- Settles O52: both sums start at 0x00, which is 0x00 XOR 0x00. -/
theorem checksumIsLinear : Obligations.ChecksumIsLinear :=
  fun _ _ h => foldl_crcStep_zipWith_xor h 0x00 0x00

/-! ### A round, a step and a sum are injective -/

/-- A round over numbers: double, drop bit 8, XOR 0x07 where bit 7 was 1 (R106). -/
theorem crcRound_toNat (r : Byte) :
    (crcRound r).toNat = (r.toNat * 2 % 256) ^^^ (if 128 ≤ r.toNat then 7 else 0) := by
  have h7 : r.getLsbD 7 = decide (128 ≤ r.toNat) := (BitVec.msb_eq_getLsbD_last r).symm.trans (BitVec.msb_eq_decide r)
  have hshift : (r <<< 1).toNat = r.toNat * 2 % 256 := by rw [BitVec.toNat_shiftLeft, Nat.shiftLeft_eq]
  rw [crcRound, h7]
  by_cases h : 128 ≤ r.toNat
  · rw [decide_eq_true h, if_pos rfl, if_pos h, BitVec.toNat_xor, hshift]
    rfl
  · rw [decide_eq_false h, if_neg Bool.false_ne_true, if_neg h, hshift, Nat.xor_zero]

/-- Only 0x00 goes to 0x00 in a round: twice the remainder is even, and CRC_POLY is odd (R108 (e)). -/
theorem eq_zero_of_crcRound_eq_zero {r : Byte} (h : crcRound r = 0#8) : r = 0#8 := by
  have hxor : r.toNat * 2 % 256 ^^^ (if 128 ≤ r.toNat then 7 else 0) = 0 := by rw [← crcRound_toNat, h]; rfl
  have heq : r.toNat * 2 % 256 = if 128 ≤ r.toNat then 7 else 0 := Nat.xor_eq_zero_iff.1 hxor
  apply BitVec.eq_of_toNat_eq
  rw [BitVec.toNat_ofNat]
  split at heq <;> omega

theorem crcRound_injective : Function.Injective crcRound := fun r r' h =>
  BitVec.xor_eq_zero_iff.1 (eq_zero_of_crcRound_eq_zero (by rw [crcRound_xor, h, BitVec.xor_self]))

theorem crcRounds_injective (k : Nat) : Function.Injective (crcRounds k) := by
  induction k with
  | zero => exact Function.injective_id
  | succ k ih => exact ih.comp crcRound_injective

/-- A byte step merges no two remainders (R108 (e)). -/
theorem crcStep_left_injective (b : Byte) : Function.Injective (crcStep · b) := fun _ _ h =>
  (BitVec.xor_left_inj b).1 (crcRounds_injective 8 h)

/-- A byte step merges no two bytes (R108 (e)). -/
theorem crcStep_right_injective (r : Byte) : Function.Injective (crcStep r) := fun _ _ h =>
  (BitVec.xor_right_inj r).1 (crcRounds_injective 8 h)

theorem foldl_crcStep_injective (bs : List Byte) : Function.Injective (bs.foldl crcStep) := by
  induction bs with
  | nil => exact Function.injective_id
  | cons b bs ih => exact ih.comp (crcStep_left_injective b)

theorem crcStep_eq_zero_iff {r b : Byte} : crcStep r b = 0#8 ↔ b = r := by
  rw [crcStep, ← crcRounds_zero 8, (crcRounds_injective 8).eq_iff, BitVec.xor_eq_zero_iff, eq_comm]

/-! ### Zeros, and an appended checksum -/

/-- A leading 0x00 leaves the remainder at 0x00 (R108 (b)). -/
@[simp] theorem crc8_zero_cons (bs : List Byte) : crc8 (0#8 :: bs) = crc8 bs :=
  congrArg (bs.foldl crcStep) crcStep_zero_zero

@[simp] theorem crc8_replicate_zero (n : Nat) : crc8 (List.replicate n 0#8) = 0#8 := by
  induction n with
  | zero => rfl
  | succ n ih => rw [List.replicate_succ, crc8_zero_cons, ih]

/-- A byte appended brings the checksum to 0x00 exactly where it is the checksum (R108 (c)). -/
theorem crc8_concat_eq_zero_iff {bs : List Byte} {c : Byte} : crc8 (bs ++ [c]) = 0#8 ↔ c = crc8 bs := by
  rw [crc8_concat, crcStep_eq_zero_iff]

/-- Settles O51: each clause is a law above. -/
theorem appendedChecksumGivesZero : Obligations.AppendedChecksumGivesZero :=
  ⟨crc8_replicate_zero, crc8_zero_cons, fun _ _ => crc8_concat_eq_zero_iff⟩

/-! ### A change of one byte -/

/-- The changed byte gives another remainder, and the bytes after it merge no two remainders (R108 (e)). -/
theorem crc8_ne_of_byte_ne (bs cs : List Byte) {x y : Byte} (h : x ≠ y) :
    crc8 (bs ++ x :: cs) ≠ crc8 (bs ++ y :: cs) := by
  rw [crc8_append, crc8_append, List.foldl_cons, List.foldl_cons]
  exact (foldl_crcStep_injective cs).ne ((crcStep_right_injective _).ne h)

theorem crc8_set_ne {bs : List Byte} {k : Nat} {v : Byte} (hk : k < bs.length) (h : bs[k] ≠ v) :
    crc8 (bs.set k v) ≠ crc8 bs := by
  have hbs : bs = bs.take k ++ bs[k] :: bs.drop (k + 1) := by
    rw [← List.drop_eq_getElem_cons, List.take_append_drop]
  rw [List.set_eq_take_append_cons_drop, if_pos hk]
  exact fun e => crc8_ne_of_byte_ne _ _ h (e.trans (congrArg crc8 hbs)).symm

/-- Bytes 1 to 63 of a frame are its checksummed range and its checksum byte (R8). -/
theorem drop_one_eq_checkedRange_append {f : List Byte} (hl : f.length = 64) :
    f.drop 1 = checkedRange f ++ [trailer f] := by
  have hlast : f.drop 63 = [trailer f] := by
    rw [List.drop_eq_getElem_cons (by omega), List.drop_eq_nil_of_le (by omega), trailer, List.getD_eq_getElem]
  calc f.drop 1 = (f.drop 1).take 62 ++ (f.drop 1).drop 62 := (List.take_append_drop 62 _).symm
    _ = checkedRange f ++ [trailer f] := by rw [List.drop_drop, hlast, checkedRange]

/-- A frame is valid exactly where bytes 1 to 63 sum to 0x00 (R108 (c), R123). -/
theorem frameValid_iff_crc8_drop_one {f : List Byte} (hl : f.length = 64) :
    frameValid f = true ↔ crc8 (f.drop 1) = 0#8 := by
  rw [drop_one_eq_checkedRange_append hl, crc8_concat_eq_zero_iff, frameValid, beq_iff_eq, eq_comm]

/-- The corner case of R125: one byte changed, the checksum byte or another, makes a valid frame invalid. -/
theorem frameValid_set {f : List Byte} {k : Nat} {v : Byte} (hl : f.length = 64) (hf : frameValid f = true)
    (h1 : 1 ≤ k) (h63 : k ≤ 63) (hv : f.getD k 0 ≠ v) : frameValid (f.set k v) = false := by
  obtain ⟨j, rfl⟩ := Nat.exists_eq_add_of_le h1
  have hj : j < (f.drop 1).length := by rw [List.length_drop]; omega
  have hne : (f.drop 1)[j] ≠ v := by rwa [List.getElem_drop, ← List.getD_eq_getElem f 0]
  have hsum : crc8 (f.drop 1) = 0#8 := (frameValid_iff_crc8_drop_one hl).1 hf
  rw [← Bool.not_eq_true, frameValid_iff_crc8_drop_one (by rw [List.length_set, hl]), ← List.set_drop, ← hsum]
  exact crc8_set_ne hj hne

/-- Settles O53: a round, a step and a sum are injective, and a valid frame's bytes 1 to 63 sum to 0x00. -/
theorem singleByteChangeIsDetected : Obligations.SingleByteChangeIsDetected :=
  ⟨crcRound_injective, crcStep_left_injective, fun bs cs _ _ h => crc8_ne_of_byte_ne bs cs h,
    fun _ _ _ => frameValid_set⟩

/-! ### The table of the test vectors -/

/-- The 256 entries, computed (95_test_vectors.md section 2.1). -/
theorem crcTable_eq_map_range : crcTable = (List.range 256).map fun n => crcStep 0#8 (BitVec.ofNat 8 n) := by
  decide +kernel

theorem crcTable_getD (b : Byte) : crcTable.getD b.toNat 0 = crcStep 0#8 b := by
  have hb : b.toNat < 256 := b.isLt
  simp [crcTable_eq_map_range, hb]

/-- One look-up is one byte step: the step depends on the XOR of its two bytes alone (R101). -/
theorem crcTable_getD_xor (r b : Byte) : crcTable.getD (r ^^^ b).toNat 0 = crcStep r b := by
  rw [crcTable_getD, crcStep_zero_left, crcStep]

/-- Settles O54: the two sums fold the same step. -/
theorem tableChecksumEqualsBitSerial : Obligations.TableChecksumEqualsBitSerial := fun bs =>
  congrArg (bs.foldl · 0x00) (funext₂ crcTable_getD_xor)

/-! ### CRC_INIT, CRC_BYTE and CRC_ROUND -/

/-- An operation that ends normally with a new remainder changes CRC_REM and ERRCODE and nothing else (R103). -/
theorem exists_next_of_done_putCrc (s : State) (c : Byte) :
    ∃ t, done (s.putCrc c) = .next t ∧ t.crcRem = c ∧ t.errcode = 0x00 ∧ t.tlm = s.tlm ∧ t.draws = s.draws ∧
      KeepsAllBut [] [] s t :=
  ⟨finish .none (s.putCrc c), rfl, finish_crcRem _ _, finish_errcode _ _, finish_tlm _ _, finish_draws _ _,
    (KeepsAllBut.putCrc [] [] s c).trans (.finish [] _ .none (.inl rfl))⟩

/-- Settles O16: each operation ends normally with the remainder its rule gives. -/
theorem crcOpsUpdateOnlyTheRemainder : Obligations.CrcOpsUpdateOnlyTheRemainder := by
  refine ⟨fun _ _ _ => ⟨rfl, rfl, rfl⟩, fun s => exists_next_of_done_putCrc s _,
    fun s b => exists_next_of_done_putCrc s (crcStep s.crcRem b), fun s => ?_⟩
  obtain ⟨t, ht, hc, hkept⟩ := exists_next_of_done_putCrc s (crcRound s.crcRem)
  exact ⟨t, ht, hc ▸ crcRound_toNat s.crcRem, hkept⟩

end Sys2Proof.Machine
end

section
/-! SUPPORT. FRAME_VALIDATE, and the frames that pass it (rules R121, R123 to R126). -/

namespace Sys2Proof.Machine

/-- FRAME_VALIDATE on a valid RX_BUF ends normally (R125). -/
theorem exec_frameValidate_of_rxMatches {s : State} (h : rxMatches s) :
    exec .frameValidate s = .next (finish .none (validateRx s)) :=
  if_pos ((rxValid_iff s).2 h)

/-- FRAME_VALIDATE on any other RX_BUF reports the mismatch after `validate_rx` has written its results (R125). -/
theorem exec_frameValidate_of_not_rxMatches {s : State} (h : ¬ rxMatches s) :
    exec .frameValidate s = .next (finish .checksumMismatch (validateRx s)) :=
  if_neg (mt (rxValid_iff s).1 h)

/-- Settles O20: both outcomes are what `validate_rx` leaves, ended by `finish`. -/
theorem frameValidateReportsTheChecksum : Obligations.FrameValidateReportsTheChecksum := by
  refine ⟨fun _ _ _ => rfl, fun s h => ?_, fun s h => ?_⟩
  · have hv : s.rxValid = true := (rxValid_iff s).2 h
    exact ⟨_, exec_frameValidate_of_rxMatches h, by simp [rxChecksum_eq_bufferSum], by simp [hv], by simp [hv], by simp,
      by simp, by simp, (KeepsAllBut.validateRx [] s (by decide) (by decide)).trans (.finish _ _ _ (.inl rfl))⟩
  · have hv : s.rxValid = false := Bool.eq_false_iff.2 (mt (rxValid_iff s).1 h)
    exact ⟨_, exec_frameValidate_of_not_rxMatches h, by simp [rxChecksum_eq_bufferSum], by simp [finish_flag, hv],
      by simp [finish_flag, hv], finish_errcode _ _, by simp [finish_flag], by simp, by simp,
      (KeepsAllBut.validateRx [] s (by decide) (by decide)).trans (.finish _ _ _ (.inr (by decide)))⟩

/-- Buffers that agree over a range have the same checksum over it. -/
theorem bufferSum_congr {s t : State} {b c : Buffer} {start len : Nat}
    (h : ∀ k < len, s.byte b (start + k) = t.byte c (start + k)) : bufferSum s b start len = bufferSum t c start len :=
  congrArg crc8 (List.map_congr_left fun k hk => h k (List.mem_range.1 hk))

/-- A copy in RX_BUF of a TX_BUF that ends in its own checksum matches (R123). -/
theorem rxMatches_of_copy {t u : State} (ht : bufferSum t .tx 1 62 = t.byte .tx 63)
    (h : ∀ k, k < 64 → u.byte .rx k = t.byte .tx k) : rxMatches u := by
  have hsum : bufferSum u .rx 1 62 = bufferSum t .tx 1 62 := bufferSum_congr fun k hk => h (1 + k) (by omega)
  exact (hsum.trans ht).trans (h 63 (by decide)).symm

/-- A frame-building operation that ends without error ends in `encode_frame` (R121, R150 to R154, R170). -/
theorem ExecResult.exists_encodeFrame {i : Instr} {s t : State} (h : ExecResult s i t) (hf : buildsFrame i = true)
    (he : t.errcode = 0x00) : ∃ cmd fe feat ple u, t = finish .none (encodeFrame cmd fe feat ple u) := by
  cases h with
  | frame | send | kept => exact ⟨_, _, _, _, _, rfl⟩
  | illegal | mismatch => simp at he
  | crc _ _ hn | payload _ _ hn => exact absurd (hn.symm.trans hf) Bool.false_ne_true
  | nop | clrErr | validated | decoded | cleared => cases hf

/-- Byte 0 of TX_BUF after `encode_frame` is the marker (R121). -/
theorem encodeFrame_marker (cmd : Byte) (fe : Bool) (feat : BitVec 3) (ple : Bool) (s : State) :
    (encodeFrame cmd fe feat ple s).byte .tx 0 = 0x3F :=
  (encodeFrame_byte_tx cmd fe feat ple s (by decide)).trans (frameBytes_zero _ _ _ _ _)

/-- Settles O43: the built frame is `encode_frame`'s, and a copy that matches passes FRAME_VALIDATE. -/
theorem builtFramesAreValid : Obligations.BuiltFramesAreValid := by
  intro i s t hf ht he
  obtain ⟨cmd, fe, feat, ple, u, rfl⟩ := (ExecResult.of_exec ht).exists_encodeFrame hf he
  have hsum : bufferSum (finish .none (encodeFrame cmd fe feat ple u)) .tx 1 62 =
      (finish .none (encodeFrame cmd fe feat ple u)).byte .tx 63 := by
    rw [finish_bufferSum, finish_byte, encodeFrame_checksum]
  refine ⟨hsum, by rw [finish_byte, encodeFrame_marker],
    by rw [finish_crcRem, finish_byte, encodeFrame_remainder], fun w hw => ?_⟩
  have hm : rxMatches w := rxMatches_of_copy hsum hw
  exact ⟨_, exec_frameValidate_of_rxMatches hm, finish_errcode _ _, by simp [(rxValid_iff w).2 hm]⟩

end Sys2Proof.Machine
end

section
/-! SUPPORT. TX_BUF and the frames sent stay valid in every step (rules R28, R34, R126), and so does the host's record of
its duties (rules R213, R214, R218). `FramesForm` is taken apart into its two sides: TX_BUF with LIGHT_TX, which the
operations write, and the host's own side, which its events write. -/

namespace Sys2Proof.Machine

/-! ### The two sides of the invariant -/

/-- What `FramesForm` says of TX_BUF and LIGHT_TX (R28, R34, R126). -/
structure State.TxForm (s : State) : Prop where
  valid : frameValid (s.bytes .tx) = true
  marked : s.byte .tx 0 = 0x3F ∨ s.bytes .tx = zeros 64
  lighting : s.flag .lightTx = true → s.byte .tx 1 &&& 0x07 = 0x04 ∧ s.byte .tx 62 = 0x00

/-- What `FramesForm` says of the host's side (R126; log entries 9, 19). -/
structure HostSide.Form (h : HostSide) : Prop where
  sent : ∀ f ∈ h.frames, f.length = 64 ∧ frameValid f = true
  settle : h.settle ≤ 5
  awaited : ∀ ks, h.awaited = some ks → ks ≠ [] ∧ ∀ k ∈ ks, k < 64
  learnt : ∀ m, h.learntMode = some m → m.toNat ≤ 2

theorem State.framesForm_iff (s : State) : s.FramesForm ↔ s.TxForm ∧ s.host.Form := by
  constructor
  · rintro ⟨hv, hm, hl, hf, ht, ha, hp⟩
    exact ⟨⟨hv, hm, hl⟩, hf, ht, ha, hp⟩
  · rintro ⟨⟨hv, hm, hl⟩, hf, ht, ha, hp⟩
    exact ⟨hv, hm, hl, hf, ht, ha, hp⟩

/-! ### TX_BUF and LIGHT_TX -/

section
variable {s t : State}

/-- What reads alike in TX_BUF and LIGHT_TX has the form alike. -/
theorem State.TxForm.congr (h : s.TxForm) (hb : ∀ k, k < 64 → t.byte .tx k = s.byte .tx k)
    (hf : t.flag .lightTx = s.flag .lightTx) : t.TxForm := by
  have hbytes : t.bytes .tx = s.bytes .tx := by
    rw [State.bytes_eq_map, State.bytes_eq_map]
    exact List.map_congr_left fun k hk => hb k (List.mem_range.1 hk)
  obtain ⟨hv, hm, hl⟩ := h
  exact ⟨by rwa [hbytes], by rwa [hbytes, hb 0 (by decide)], by rwa [hf, hb 1 (by decide), hb 62 (by decide)]⟩

theorem State.TxForm.of_mem (h : s.TxForm) (hm : t.mem = s.mem) (hf : t.flag .lightTx = s.flag .lightTx) : t.TxForm :=
  h.congr (fun k _ => State.byte_of_mem hm .tx k) hf

/-- The all-zero TX_BUF of reset has the form (R34, R210). -/
theorem txForm_reset : State.reset.TxForm :=
  ⟨by decide +kernel, .inr (by decide +kernel), nofun⟩

/-- The low bits of a nonce are free for the lighting code (R79, R120). -/
theorem nonce_or_lightCode_and (k : Nat) : (Config.nonce k ||| Config.lightCode) &&& 0x07 = 0x04 := by
  have h : ∀ x : BitVec 5, ((x ++ 0#3 : Byte) ||| 0x04) &&& 0x07 = 0x04 := by decide
  exact h (Config.nonceBits k)

/-- A built frame has the form: valid and marked, and where LIGHT_TX is set a Form A frame with code 0b100 (R28, R126). -/
theorem txForm_encodeFrame (cmd : Byte) (fe : Bool) (feat : BitVec 3) (ple : Bool) (s : State) :
    (encodeFrame cmd fe feat ple s).TxForm where
  valid := (frameValid_tx_iff _).2 (encodeFrame_checksum cmd fe feat ple s).symm
  marked := .inl (encodeFrame_marker cmd fe feat ple s)
  lighting h := by
    have hl : fe = false ∧ cmd = Config.lightCode := by simpa [isLighting] using h
    obtain ⟨rfl, rfl⟩ := hl
    have hA := encodeFrame_formA Config.lightCode feat ple s
    exact ⟨by rw [hA.code, nonce_or_lightCode_and], hA.pad⟩

/-- An operation leaves TX_BUF and LIGHT_TX alone, or builds a frame (R28, R34). -/
theorem ExecResult.txForm {i : Instr} (hr : ExecResult s i t) (h : s.TxForm) : t.TxForm := by
  have heq := hr.frame_eq
  split at heq
  next hb =>
    obtain ⟨cmd, fe, feat, ple, u, rfl⟩ := hr.exists_encodeFrame hb.1 hb.2
    exact (txForm_encodeFrame cmd fe feat ple u).of_mem (finish_mem _ _) (finish_none_flag _ _)
  next =>
    obtain ⟨hbytes, hflag, _⟩ := heq
    exact h.congr hbytes hflag

@[simp] theorem State.flag_writeLoc (s : State) (l : Loc) (v : Byte) (f : StatusFlag) :
    (s.writeLoc l v).flag f = s.flag f := by
  cases l with
  | buf b k => rw [State.writeLoc_buf]; split <;> rfl
  | _ => rfl

/-- A host write leaves TX_BUF alone: it is read-only (R34, R53). -/
theorem byte_tx_writeLoc_locate (s : State) (a : Addr) (v : Byte) {k : Nat} (hk : k < 64) :
    (s.writeLoc (locate a) v).byte .tx k = s.byte .tx k := by
  by_cases hs : (locate a).stores = true
  · have hne : Loc.buf .tx k ≠ locate a := fun e => by rw [← e] at hs; cases hs
    exact State.readLoc_writeLoc_ne (fun _ _ => lt_size_of_locate) (fun _ _ e => by cases e; exact hk) hne
  · rw [State.writeLoc_of_not_stores (Bool.eq_false_iff.2 hs)]

end

/-! ### The host's side -/

theorem pumpModeDecode_le (b : Byte) : (pumpModeDecode b).toNat ≤ 2 := by
  rw [pumpModeDecode_eq]
  split_ifs <;> decide

/-- The indexes of a whole response (R218). -/
theorem range_frameLen_form : List.range Config.frameLen ≠ [] ∧ ∀ k ∈ List.range Config.frameLen, k < 64 :=
  ⟨by decide, fun _ => List.mem_range.1⟩

section
variable {h : HostSide}

/-- Handing over a valid frame keeps the form (R126, R213, R214). -/
theorem HostSide.Form.handOver (hh : h.Form) {f : List Byte} (hl : f.length = 64) (hf : frameValid f = true)
    (light : Bool) : (h.handOver f light).Form where
  sent g hg := by
    rcases List.mem_append.1 hg with hg | hg
    · exact hh.sent g hg
    · rw [List.mem_singleton.1 hg]; exact ⟨hl, hf⟩
  settle := by cases light <;> simp [Config.lightSettleMs]
  awaited ks hks := by
    rw [HostSide.handOver_awaited] at hks
    split_ifs at hks
    · cases hks; exact range_frameLen_form
    · exact hh.awaited ks hks
  learnt m hm := by
    rw [HostSide.handOver_learntMode] at hm
    split_ifs at hm
    exact hh.learnt m hm

/-- After the reset input a response still awaited is awaited whole (R218). -/
theorem HostSide.Form.afterReset (hh : h.Form) : h.afterReset.Form where
  sent := hh.sent
  settle := hh.settle
  awaited ks hks := by
    obtain ⟨_, _, rfl⟩ := Option.map_eq_some_iff.1 hks
    exact range_frameLen_form
  learnt := hh.learnt

end

section
variable {s t : State}

/-- Noting a response byte keeps the form: some index is still awaited, or none is and the mode learnt is a decoded one
(R172, R214, R218). -/
theorem hostForm_noteResponse (hh : s.host.Form) (k : Nat) : (s.noteResponse k).host.Form := by
  rcases s.noteResponse_cases k with ⟨_, e⟩ | ⟨ks, hks, ⟨j, hj, hjk⟩, e⟩ | ⟨_, _, _, e⟩
  · rwa [e]
  · rw [e]
    have hmem : j ∈ ks.filter (· != k) := List.mem_filter.2 ⟨hj, by simpa using hjk⟩
    refine ⟨hh.sent, hh.settle, fun ls hls => ?_, hh.learnt⟩
    cases hls
    exact ⟨List.ne_nil_of_mem hmem, fun l hl => (hh.awaited ks hks).2 l (List.mem_filter.1 hl).1⟩
  · rw [e]
    refine ⟨hh.sent, hh.settle, nofun, fun m hm => ?_⟩
    change (if s.rxValid then _ else _) = some m at hm
    split at hm
    · cases hm; exact pumpModeDecode_le _
    · exact hh.learnt m hm

/-! ### Every event -/

/-- A host write to any place keeps both sides (R53). -/
theorem framesForm_writeLoc (h : s.FramesForm) (a : Addr) (v : Byte) : (s.writeLoc (locate a) v).FramesForm := by
  rw [State.framesForm_iff, State.writeLoc_host] at *
  exact ⟨h.1.congr (fun _ => byte_tx_writeLoc_locate s a v) (s.flag_writeLoc _ v _), h.2⟩

theorem framesForm_noteResponse (h : s.FramesForm) (k : Nat) : (s.noteResponse k).FramesForm := by
  rw [State.framesForm_iff] at *
  exact ⟨h.1.of_mem (s.noteResponse_mem k) (s.flag_noteResponse k _), hostForm_noteResponse h.2 k⟩

/-- Performing what the command registers hold keeps both sides (R90, R94). -/
theorem framesForm_of_perform (h : s.FramesForm) (ht : perform s = .next t) : t.FramesForm := by
  rw [State.framesForm_iff] at *
  obtain ⟨hx, hh⟩ := h
  rcases perform_cases ht with ⟨i, _, _, hi⟩ | ⟨_, _, rfl⟩
  · have hr := ExecResult.of_exec hi
    exact ⟨hr.txForm hx, hr.keepsAllBut.host ▸ hh⟩
  · exact ⟨hx.of_mem (finish_mem _ _) (by simp [finish_flag]), finish_host s .badOpcode ▸ hh⟩

theorem framesForm_of_hostWrite {a : Addr} {v : Byte} (h : s.FramesForm) (ht : hostWrite a v s = .next t) :
    t.FramesForm := by
  have hw : (s.writeLoc (locate a) v).FramesForm := framesForm_writeLoc h a v
  rcases hostWrite_cases ht with ⟨ho, ht⟩ | ⟨k, hk, rfl⟩ | ⟨_, _, rfl⟩
  · exact framesForm_of_perform (ho ▸ hw) ht
  · exact framesForm_noteResponse (hk ▸ hw) k
  · exact hw

/-- A frame handed over is the valid TX_BUF of that moment (R126, R221). -/
theorem framesForm_of_transmit (h : s.FramesForm) (ht : transmit s = .next t) : t.FramesForm := by
  rcases transmit_cases s with ⟨_, hf⟩ | ⟨_, _, _, hf⟩ | ⟨_, _, hf⟩
  · cases hf.symm.trans ht
  · cases hf.symm.trans ht
  · cases hf.symm.trans ht
    rw [State.framesForm_iff] at *
    exact ⟨h.1.of_mem rfl rfl, h.2.handOver (s.bytes_length .tx) h.1.valid _⟩

theorem framesForm_of_hostAct {e : HostEvent} (h : s.FramesForm) (ht : hostAct e s = .next t) : t.FramesForm := by
  cases e with
  | sb a v => exact framesForm_of_hostWrite h ht
  | lb a => cases ht; exact { h with }
  | xmit => exact framesForm_of_transmit h ht
  | waitMs n => cases ht; exact { h with settle := (Nat.sub_le _ _).trans h.settle }
  | reset =>
    cases ht
    exact (State.framesForm_iff _).2 ⟨txForm_reset.of_mem rfl rfl, ((State.framesForm_iff s).1 h).2.afterReset⟩

end

/-- Settles O49: operations write TX_BUF only by building a frame, and the host's events keep its own side. -/
theorem stepKeepsEveryFrameValid : Obligations.StepKeepsEveryFrameValid := by
  intro s t h ht
  cases hp : s.host.pending with
  | nil =>
    unfold step at ht
    rw [hp] at ht
    cases ht
    exact h
  | cons e rest =>
    have hs : (s.popEvent rest).FramesForm := { h with }
    exact framesForm_of_hostAct hs ((step_of_pending hp).symm.trans ht)

end Sys2Proof.Machine
end

section
/-! SUPPORT. The payload layouts byte by byte (rules R140, R143, R144, R147, R148), and the duty byte (rules R141,
R182). -/

namespace Sys2Proof.Machine

/-! ### Layouts -/

/-- `cooling_base` is rule R140's table. -/
theorem coolingBase_eq_map (mode : Byte) : coolingBase mode = (List.range 60).map (coolingByte mode) := rfl

/-- `light_payload` of sixteen colors is rule R144's layout. -/
theorem lightPayload_eq_map (c : Nat → Color) :
    lightPayload ((List.range 16).map c) = (List.range 60).map (lightByte c) := rfl

/-- Sixteen slots of one color are sixteen colors like any other (R147). -/
theorem solidColors_eq_map (r g b : Byte) : solidColors r g b = (List.range 16).map fun _ => (r, g, b) := rfl

theorem getD_coolingBase (mode : Byte) {k : Nat} (hk : k < 60) : (coolingBase mode).getD k 0 = coolingByte mode k := by
  simp [coolingBase_eq_map, hk]

theorem getD_lightPayload (c : Nat → Color) {k : Nat} (hk : k < 60) :
    (lightPayload ((List.range 16).map c)).getD k 0 = lightByte c k := by
  simp [lightPayload_eq_map, hk]

theorem getD_zeros {n k : Nat} (hk : k < n) : (zeros n).getD k 0 = 0x00 := List.getD_replicate _ hk

theorem dutyByte_eq_ofNat (p : Byte) : dutyByte p = BitVec.ofNat 8 (dutyNumber p) := rfl

/-- A fan channel's two bytes put into a payload, byte by byte (R142, R148). -/
theorem getD_putFan (o : Nat) (d : Byte) {p : List Byte} {k : Nat} (hk : k < p.length) :
    (putFan o d p).getD k 0 = if k = o + 5 then d else if k = o then 0x02 else p.getD k 0 := by
  simp [putFan, Config.fanDutyDelta, Config.fanModeFixed, List.getElem_set, hk, eq_comm]

/-- The fan payload, byte by byte: the second channel's bytes overwrite none of the first's (R143, R148). -/
theorem getD_fanLayout (pct mode : Byte) {k : Nat} (hk : k < 60) :
    (fanLayout pct mode).getD k 0 = fanByte (BitVec.ofNat 8 (dutyNumber pct)) mode k := by
  have hofs := fanModeOfs_ok
  simp only [Config.fanOfsOk, Bool.and_eq_true, decide_eq_true_eq, List.nodup_cons, List.mem_cons, not_or] at hofs
  have hne : Config.fanModeOfs1 ≠ Config.fanModeOfs2 + 5 := by tauto
  rw [fanLayout, fanLayoutAt, getD_putFan _ _ (by simpa using hk), getD_putFan _ _ (by simpa using hk),
    getD_coolingBase mode hk, dutyByte_eq_ofNat, fanByte]
  grind

/-! ### The duty byte -/

/-- The duty byte as a number: the clamp at 255 leaves nothing to wrap (R141). -/
theorem toNat_dutyByte (p : Byte) : (dutyByte p).toNat = dutyNumber p :=
  Nat.mod_eq_of_lt (Nat.lt_succ_of_le (Nat.min_le_left _ _))

/-- A percentage of at most 100 is rounded, not clamped: its byte lies half a step or less above the exact value, and
less than half a step below (R141). -/
theorem dutyByte_bounds {p : Byte} (h : p.toNat ≤ 100) :
    100 * (dutyByte p).toNat ≤ p.toNat * 255 + 50 ∧ p.toNat * 255 + 50 < 100 * (dutyByte p).toNat + 100 := by
  rw [toNat_dutyByte, dutyNumber]
  omega

/-- Settles O55: the integer bounds divided by 100, and by 255 for the percentage read back. -/
theorem dutyByteIsNearest : Obligations.DutyByteIsNearest := by
  refine ⟨fun p hp => ?_, fun p hp => ?_, fun p q hpq => ?_⟩
  · obtain ⟨hle, hlt⟩ := dutyByte_bounds hp
    have hle' : 100 * ((dutyByte p).toNat : Rat) ≤ p.toNat * 255 + 50 := by exact_mod_cast hle
    have hlt' : (p.toNat : Rat) * 255 + 50 < 100 * (dutyByte p).toNat + 100 := by exact_mod_cast hlt
    unfold dutyPercent
    refine ⟨?_, ?_, ?_, ?_⟩ <;> linarith
  · have hd : dutyNumber p = 255 := by rw [dutyNumber]; omega
    rw [dutyByte_eq_ofNat, hd]
    rfl
  · rw [toNat_dutyByte, toNat_dutyByte, dutyNumber, dutyNumber]
    omega

end Sys2Proof.Machine
end

section
/-! SUPPORT. The payload operations (rules R145 to R149): each ends as one write of PAYLOAD does. -/

namespace Sys2Proof.Machine

/-- What a rewritten PAYLOAD holds. -/
theorem payloadIs_store (s : State) {pl : List Byte} {p : Nat → Byte} (hl : pl.length = 60)
    (hp : ∀ k, k < 60 → pl.getD k 0 = p k) : PayloadIs (s.store .payload pl) p := fun k hk =>
  (State.byte_store s .payload .payload pl k hl hk).trans (hp k hk)

theorem PayloadIs.finish {t : State} {p : Nat → Byte} (h : PayloadIs t p) (c : ErrCode) :
    PayloadIs (finish c t) p := fun k hk => (finish_byte c t .payload k).trans (h k hk)

/-- An operation that ends normally with a new payload changes PAYLOAD and ERRCODE and nothing else (R145 to R149). -/
theorem exists_next_of_done_store (s : State) {pl : List Byte} {p : Nat → Byte} (hl : pl.length = 60)
    (hp : ∀ k, k < 60 → pl.getD k 0 = p k) :
    ∃ t, done (s.store .payload pl) = .next t ∧ PayloadIs t p ∧ t.errcode = 0x00 ∧ t.crcRem = s.crcRem ∧
      t.tlm = s.tlm ∧ t.draws = s.draws ∧ KeepsAllBut [] [.payload] s t :=
  ⟨_, rfl, (payloadIs_store s hl hp).finish .none, finish_errcode _ _, finish_crcRem _ _, finish_tlm _ _,
    finish_draws _ _, (KeepsAllBut.store [] s (by decide) hl).trans (.finish _ _ .none (.inl rfl))⟩

theorem lightPayload_ledColors_length (s : State) : (lightPayload s.ledColors).length = 60 := by
  rw [lightPayload_length, s.ledColors_length]

theorem lightPayload_solidColors_length (r g b : Byte) : (lightPayload (solidColors r g b)).length = 60 := by
  rw [lightPayload_length, solidColors_length]

/-- A pump mode of at most 2 passes the operand check (R74, R148). -/
theorem pumpModeLegal_of_le {mode : Byte} (h : mode.toNat ≤ 2) : pumpModeLegal mode = true := decide_eq_true h

/-- A pump mode above 2 is an illegal operand (R74). -/
theorem pumpModeWf_of_lt {mode : Byte} (h : 3 ≤ mode.toNat) : pumpModeWf mode = false :=
  decide_eq_false (Nat.not_le.2 h)

/-- The offsets of LED `i`'s three bytes in a lighting payload, in the order green, red, blue (R144). -/
theorem lightByte_led (c : Nat → Color) {i : Nat} (hi : i < 16) :
    lightByte c (3 * i + 1) = (c i).2.1 ∧ lightByte c (3 * i + 2) = (c i).1 ∧ lightByte c (3 * i + 3) = (c i).2.2 := by
  have h1 : (3 * i + 1 - 1) / 3 = i := by omega
  have h2 : (3 * i + 2 - 1) / 3 = i := by omega
  have h3 : (3 * i + 3 - 1) / 3 = i := by omega
  refine ⟨?_, ?_, ?_⟩
  · rw [lightByte, if_neg (by omega), if_pos (by omega), h1]
  · rw [lightByte, if_neg (by omega), if_neg (by omega), if_pos (by omega), h2]
  · rw [lightByte, if_neg (by omega), if_neg (by omega), if_neg (by omega), h3]

/-- Around the sixteen triples a lighting payload is 0x00 (R144). -/
theorem lightByte_zero (c : Nat → Color) {k : Nat} (h : k = 0 ∨ 49 ≤ k) : lightByte c k = 0x00 := if_pos h

/-- Settles O21: the new payload is sixty zeros. -/
theorem plClearZeroesPayload : Obligations.PlClearZeroesPayload :=
  ⟨fun _ _ _ => rfl, fun s => exists_next_of_done_store s (zeros_length 60) fun _ => getD_zeros⟩

/-- Settles O22: the lighting payload of the LED colors, read slot by slot. -/
theorem plLightRoutesTheLeds : Obligations.PlLightRoutesTheLeds := by
  refine ⟨fun _ _ _ => rfl, fun s => ?_⟩
  obtain ⟨t, ht, hp, hkept⟩ :=
    exists_next_of_done_store s (lightPayload_ledColors_length s) fun _ => getD_lightPayload s.ledColor
  refine ⟨t, ht, fun i hi => ?_, (hp 0 (by decide)).trans (lightByte_zero _ (.inl rfl)),
    fun k h49 hk => (hp k hk).trans (lightByte_zero _ (.inr h49)), hkept⟩
  obtain ⟨hg, hr, hb⟩ := lightByte_led s.ledColor hi
  exact ⟨(hp _ (by omega)).trans hg, (hp _ (by omega)).trans hr, (hp _ (by omega)).trans hb⟩

/-- Settles O23: one color in every slot. -/
theorem plLightSolidFillsEverySlot : Obligations.PlLightSolidFillsEverySlot :=
  ⟨fun _ _ _ => rfl, fun s r g b => exists_next_of_done_store s (lightPayload_solidColors_length r g b) fun _ =>
    getD_lightPayload fun _ => (r, g, b)⟩

/-- Settles O24: the fan layout for a legal pump mode, the operand error for any other. -/
theorem plFanBuildsFanPayload : Obligations.PlFanBuildsFanPayload := by
  refine ⟨fun _ _ _ => rfl, fun s pct mode h => ?_, fun s pct mode h =>
    exists_error_of_illegal (i := .plFan pct mode) s (pumpModeWf_of_lt h)⟩
  have he : exec (.plFan pct mode) s = done (s.store .payload (fanLayout pct mode)) := if_pos (pumpModeLegal_of_le h)
  rw [he]
  exact exists_next_of_done_store s (fanLayout_length pct mode) fun _ => getD_fanLayout pct mode

/-- Settles O25: the cooling layout for a legal pump mode, the operand error for any other. -/
theorem plPumpBuildsPumpPayload : Obligations.PlPumpBuildsPumpPayload := by
  refine ⟨fun _ _ _ => rfl, fun s mode h => ?_, fun s mode h =>
    exists_error_of_illegal (i := .plPump mode) s (pumpModeWf_of_lt h)⟩
  have he : exec (.plPump mode) s = done (s.store .payload (coolingBase mode)) := if_pos (pumpModeLegal_of_le h)
  rw [he]
  exact exists_next_of_done_store s (coolingBase_length mode) fun _ => getD_coolingBase mode

/-- A PAYLOAD of zeros is carried in a frame as an absent payload is (R78, R145). -/
theorem State.framePayload_of_zero {s : State} (h : ∀ k, k < 60 → s.byte .payload k = 0x00) :
    s.framePayload true = s.framePayload false := by
  change s.bytes .payload = zeros 60
  rw [State.bytes_eq_map]
  exact (List.map_congr_left fun k hk => h k (List.mem_range.1 hk)).trans List.map_const'

/-- Settles O19: with equal payload bytes and one draw, `encode_frame` builds one frame. -/
theorem zeroPayloadEqualsAbsentPayload : Obligations.ZeroPayloadEqualsAbsentPayload := by
  intro s cmd fe r1 feat r2 h
  have hp : s.afterDraw.framePayload true = s.afterDraw.framePayload false := State.framePayload_of_zero h
  have he : encodeFrame cmd fe feat true s = encodeFrame cmd fe feat false s := by
    simp only [encodeFrame, encodeFrameWith, State.frameWith, hp]
  simp only [exec, execFrameEncode, he]

end Sys2Proof.Machine
end

section
/-! SUPPORT. The subsystem writes (rules R150 to R154): a payload in PAYLOAD, then a frame around it in TX_BUF. -/

namespace Sys2Proof.Machine

/-! ### A payload and its frame -/

/-- A flag outside the excepted ones is kept. -/
theorem KeepsAllBut.flag_eq {fs : List StatusFlag} {bs : List Buffer} {s t : State} (h : KeepsAllBut fs bs s t)
    {f : StatusFlag} (hf : f ∉ fs) : t.flag f = s.flag f :=
  h.status f.bit (f.bit_lt.trans (by decide)) fun g hg e => hf (StatusFlag.bit_inj.1 e ▸ hg)

/-- `encode_frame` leaves PAYLOAD as it is (R121). -/
theorem PayloadIs.encodeFrame {s : State} {p : Nat → Byte} (h : PayloadIs s p) (cmd : Byte) (fe : Bool)
    (feat : BitVec 3) (ple : Bool) : PayloadIs (encodeFrame cmd fe feat ple s) p := fun k hk =>
  (encodeFrame_byte cmd fe feat ple s .payload k hk).trans (h k hk)

/-- What a Form A frame's payload is known by may be named anew, byte by byte. -/
theorem FormA.congr {t : State} {b1 : Byte} {p q : Nat → Byte} (h : FormA t b1 p) (hpq : ∀ k, k < 60 → p k = q k) :
    FormA t b1 q :=
  { h with payload := fun k hk => (h.payload k hk).trans (hpq k hk) }

theorem FormB.congr {t : State} {b1 cmd : Byte} {p q : Nat → Byte} (h : FormB t b1 cmd p)
    (hpq : ∀ k, k < 60 → p k = q k) : FormB t b1 cmd q :=
  { h with payload := fun k hk => (h.payload k hk).trans (hpq k hk) }

/-- A subsystem write leaves alone all but PAYLOAD, TX_BUF and LIGHT_TX (R150 to R154). -/
theorem KeepsAllBut.send (cmd : Byte) (fe : Bool) (feat : BitVec 3) (s : State) {pl : List Byte} (hl : pl.length = 60) :
    KeepsAllBut [.lightTx] [.tx, .payload] s
      (Machine.finish .none (Machine.encodeFrame cmd fe feat true (s.store .payload pl))) :=
  (KeepsAllBut.store _ s (by decide) hl).trans
    ((KeepsAllBut.finish_encodeFrame cmd fe feat true _).mono (List.Subset.refl _) (by decide))

/-- A lighting write leaves the payload, a Form A frame with code 0x04 around it, and LIGHT_TX set (R79, R150). -/
theorem exists_next_of_done_sendLighting (s : State) {pl : List Byte} {p : Nat → Byte} (hl : pl.length = 60)
    (hp : ∀ k, k < 60 → pl.getD k 0 = p k) :
    ∃ t, done (sendLighting pl s) = .next t ∧ PayloadIs t p ∧
      FormA t (Config.nonce s.draws ||| 0x04) (fun k => t.byte .payload k) ∧ t.flag .lightTx = true ∧
      t.errcode = 0x00 ∧ t.tlm = s.tlm ∧ t.draws = s.draws + 1 ∧ KeepsAllBut [.lightTx] [.tx, .payload] s t := by
  have hst : PayloadIs (s.store .payload pl) p := payloadIs_store s hl hp
  have ht : PayloadIs (finish .none (sendLighting pl s)) p := (hst.encodeFrame Config.lightCode false 0 true).finish .none
  exact ⟨_, rfl, ht,
    ((encodeFrame_formA Config.lightCode 0 true _).finish .none).congr fun k hk =>
      (if_pos rfl).trans ((hst k hk).trans (ht k hk).symm),
    by simp [sendLighting, isLighting], finish_errcode _ _,
    by rw [sendLighting, finish_tlm, encodeFrame_tlm, State.store_tlm], by simp [sendLighting],
    .send Config.lightCode false 0 s hl⟩

/-- A cooling write leaves the payload, a Form B frame with feature 0b000 and command 0x14 around it, and LIGHT_TX
clear (R79, R152). -/
theorem exists_next_of_done_sendCooling (s : State) {pl : List Byte} {p : Nat → Byte} (hl : pl.length = 60)
    (hp : ∀ k, k < 60 → pl.getD k 0 = p k) :
    ∃ t, done (sendCooling pl s) = .next t ∧ PayloadIs t p ∧
      FormB t (Config.nonce s.draws) 0x14 (fun k => t.byte .payload k) ∧ t.flag .lightTx = false ∧
      t.errcode = 0x00 ∧ t.tlm = s.tlm ∧ t.draws = s.draws + 1 ∧ KeepsAllBut [.lightTx] [.tx, .payload] s t := by
  have hst : PayloadIs (s.store .payload pl) p := payloadIs_store s hl hp
  have ht : PayloadIs (finish .none (sendCooling pl s)) p :=
    (hst.encodeFrame Config.cmdCfg true Config.featCooling true).finish .none
  have hn : Config.nonce s.draws ||| Config.featCooling.setWidth 8 = Config.nonce s.draws := BitVec.or_zero
  exact ⟨_, rfl, ht, hn ▸
    ((encodeFrame_formB Config.cmdCfg Config.featCooling true _).finish .none).congr fun k hk =>
      (if_pos rfl).trans ((hst k hk).trans (ht k hk).symm),
    by simp [sendCooling, isLighting], finish_errcode _ _,
    by rw [sendCooling, finish_tlm, encodeFrame_tlm, State.store_tlm], by simp [sendCooling],
    .send Config.cmdCfg true Config.featCooling s hl⟩

/-! ### The five operations -/

/-- Settles O26: the lighting write of the LED colors. -/
theorem txLightBuildsLightingFrame : Obligations.TxLightBuildsLightingFrame :=
  ⟨fun _ _ _ => rfl, fun s => exists_next_of_done_sendLighting s (lightPayload_ledColors_length s) fun _ =>
    getD_lightPayload s.ledColor⟩

/-- Settles O27: the lighting write of one color in every slot. -/
theorem txLightSolidBuildsLightingFrame : Obligations.TxLightSolidBuildsLightingFrame :=
  ⟨fun _ _ _ => rfl, fun s r g b => exists_next_of_done_sendLighting s (lightPayload_solidColors_length r g b) fun _ =>
    getD_lightPayload fun _ => (r, g, b)⟩

/-- Settles O28: the cooling write of the fan layout for a legal pump mode, the operand error for any other. -/
theorem txFanBuildsCoolingFrame : Obligations.TxFanBuildsCoolingFrame := by
  refine ⟨fun _ _ _ => rfl, fun s pct mode h => ?_, fun s pct mode h =>
    exists_error_of_illegal (i := .txFan pct mode) s (pumpModeWf_of_lt h)⟩
  have he : exec (.txFan pct mode) s = done (sendCooling (fanLayout pct mode) s) := if_pos (pumpModeLegal_of_le h)
  rw [he]
  exact exists_next_of_done_sendCooling s (fanLayout_length pct mode) fun _ => getD_fanLayout pct mode

/-- Settles O30: the cooling write of the cooling layout for a legal pump mode, the operand error for any other. -/
theorem txPumpBuildsCoolingFrame : Obligations.TxPumpBuildsCoolingFrame := by
  refine ⟨fun _ _ _ => rfl, fun s mode h => ?_, fun s mode h =>
    exists_error_of_illegal (i := .txPump mode) s (pumpModeWf_of_lt h)⟩
  have he : exec (.txPump mode) s = done (sendCooling (coolingBase mode) s) := if_pos (pumpModeLegal_of_le h)
  rw [he]
  exact exists_next_of_done_sendCooling s (coolingBase_length mode) fun _ => getD_coolingBase mode

/-- TX_FAN_KEEP on a valid RX_BUF is a cooling write after `validate_rx` (R153). -/
theorem exec_txFanKeep_of_rxValid (pct : Byte) {s : State} (h : s.rxValid = true) : exec (.txFanKeep pct) s =
    done (sendCooling (fanLayout pct (pumpModeDecode (s.byte .rx 24))) (validateRx s)) := if_pos h

/-- TX_FAN_KEEP on any other RX_BUF reports the mismatch after `validate_rx` has written its results (R153). -/
theorem exec_txFanKeep_of_not_rxValid (pct : Byte) {s : State} (h : s.rxValid = false) :
    exec (.txFanKeep pct) s = .next (finish .checksumMismatch (validateRx s)) := if_neg (by simp [h])

/-- Settles O29: on a match the cooling write keeps the CHK flags `validate_rx` left; on a mismatch TX_FAN_KEEP does what
FRAME_VALIDATE does. -/
theorem txFanKeepReembedsThePumpMode : Obligations.TxFanKeepReembedsThePumpMode := by
  refine ⟨fun _ _ _ => rfl, fun s pct h => ?_, fun s pct h => ?_⟩
  · have hv : s.rxValid = true := (rxValid_iff s).2 h
    obtain ⟨t, ht, hp, hB, hl, he, htlm, hd, hk⟩ := exists_next_of_done_sendCooling (validateRx s)
      (fanLayout_length pct (pumpModeDecode (s.byte .rx 24))) fun _ => getD_fanLayout pct _
    rw [pumpModeDecode_eq] at hp
    rw [validateRx_draws] at hB hd
    rw [validateRx_tlm] at htlm
    have hrx : KeepsAllBut [.lightTx, .chkValid, .chkMismatch] [.tx, .payload] s (validateRx s) :=
      .validateRx _ s (by decide) (by decide)
    exact ⟨t, (exec_txFanKeep_of_rxValid pct hv).trans ht, hp, hB, hl,
      (hk.flag_eq (f := .chkValid) (by decide)).trans (by simp [hv]),
      (hk.flag_eq (f := .chkMismatch) (by decide)).trans (by simp [hv]), he, htlm, hd,
      hrx.trans (hk.mono (by decide) (List.Subset.refl _))⟩
  · have hv : s.rxValid = false := Bool.eq_false_iff.2 (mt (rxValid_iff s).1 h)
    have he : exec (.txFanKeep pct) s = exec .frameValidate s :=
      (exec_txFanKeep_of_not_rxValid pct hv).trans (exec_frameValidate_of_not_rxMatches h).symm
    obtain ⟨_, _, hmismatch⟩ := frameValidateReportsTheChecksum
    rw [he]
    exact hmismatch s h

/-! ### TX_FAN_KEEP and the field registers -/

/-- Writes of two bits of a byte commute. -/
theorem setBit_comm (v : Byte) {j k : Nat} (h : j ≠ k) (a b : Bool) :
    setBit (setBit v j a) k b = setBit (setBit v k b) j a := by
  refine BitVec.eq_of_getLsbD_eq fun i hi => ?_
  simp only [getLsbD_setBit _ _ _ _ hi]
  by_cases hk : i = k
  · simp [hk, h.symm]
  · simp [hk]

/-- Writes of two flags commute. -/
theorem State.putFlag_comm (s : State) {f g : StatusFlag} (h : f ≠ g) (a b : Bool) :
    (s.putFlag f a).putFlag g b = (s.putFlag g b).putFlag f a := by
  simp only [State.putFlag, setBit_comm s.status (mt StatusFlag.bit_inj.1 h)]

/-- The field registers and TLM_VALID written, and nothing else (R27, R33). -/
def State.putFields (s : State) (τ : Telemetry) (b : Bool) : State := (s.putTlm τ).putFlag .tlmValid b

section
variable (s : State) (τ : Telemetry) (b : Bool)

/-- Any other flag may be written before or after the fields. -/
theorem State.putFlag_putFields {f : StatusFlag} (h : .tlmValid ≠ f) (v : Bool) :
    (s.putFields τ b).putFlag f v = (s.putFlag f v).putFields τ b := State.putFlag_comm (s.putTlm τ) h b v

theorem validateRx_putFields : validateRx (s.putFields τ b) = (validateRx s).putFields τ b := by
  change (((s.putCrc s.rxChecksum).putFields τ b).putFlag .chkValid s.rxValid).putFlag .chkMismatch (!s.rxValid) = _
  rw [State.putFlag_putFields _ τ b (by decide), State.putFlag_putFields _ τ b (by decide), validateRx]

theorem encodeFrame_putFields (cmd : Byte) (fe : Bool) (feat : BitVec 3) (ple : Bool) :
    encodeFrame cmd fe feat ple (s.putFields τ b) = (encodeFrame cmd fe feat ple s).putFields τ b :=
  let f : List Byte := s.frameWith s.nextNonce cmd fe feat ple
  State.putFlag_putFields ((s.afterDraw.store .tx f).putCrc (trailer f)) τ b (by decide) (isLighting cmd fe)

theorem finish_putFields (c : ErrCode) : finish c (s.putFields τ b) = (finish c s).putFields τ b := by
  unfold finish
  split
  · rfl
  · exact State.putFlag_putFields { s with errcode := c.code } τ b (by decide) true

theorem sendCooling_putFields (pl : List Byte) :
    sendCooling pl (s.putFields τ b) = (sendCooling pl s).putFields τ b :=
  encodeFrame_putFields (s.store .payload pl) τ b Config.cmdCfg true Config.featCooling true

end

/-- Settles O45: every part of TX_FAN_KEEP commutes with a write of the field registers and TLM_VALID. -/
theorem txFanKeepIgnoresTheFieldRegisters : Obligations.TxFanKeepIgnoresTheFieldRegisters := by
  intro s pct τ b
  change ∃ t, exec (.txFanKeep pct) s = .next t ∧ exec (.txFanKeep pct) (s.putFields τ b) = .next (t.putFields τ b)
  have hrx : (s.putFields τ b).rxValid = s.rxValid := rfl
  have hbyte : (s.putFields τ b).byte .rx 24 = s.byte .rx 24 := rfl
  cases hv : s.rxValid with
  | true =>
    refine ⟨_, exec_txFanKeep_of_rxValid pct hv, ?_⟩
    rw [exec_txFanKeep_of_rxValid pct (hrx.trans hv), hbyte, validateRx_putFields, sendCooling_putFields, done,
      finish_putFields]
  | false =>
    refine ⟨_, exec_txFanKeep_of_not_rxValid pct hv, ?_⟩
    rw [exec_txFanKeep_of_not_rxValid pct (hrx.trans hv), validateRx_putFields, finish_putFields]

end Sys2Proof.Machine
end

section
/-! SUPPORT. The telemetry operations (rules R127, R170, R171, R173), and the measurements read from the field registers
(rules R174 to R181). -/

namespace Sys2Proof.Machine

/-! ### The telemetry request -/

/-- The checksum of the telemetry request (R127, R170). -/
theorem crc8_cmdTlm_zeros : crc8 (Config.cmdTlm :: zeros 61) = 0x87 := by decide +kernel

/-- The nonce is lost in command 0xFF, so every draw gives one frame (R127, R170). -/
theorem frameBytes_cmdTlm (n : Byte) : frameBytes n Config.cmdTlm false 0 (zeros 60) = tlmRequest := by
  have hn : n ||| Config.cmdTlm = Config.cmdTlm := BitVec.or_allOnes
  have hbody : frameBody n Config.cmdTlm false 0 (zeros 60) = Config.cmdTlm :: zeros 61 := by
    rw [frameBody, if_neg (by decide), hn]
    rfl
  rw [frameBytes, hbody, crc8_cmdTlm_zeros]
  rfl

/-- What TX_TLM_REQ leaves in TX_BUF (R170). -/
theorem holdsTlmRequest_encodeFrame (s : State) : HoldsTlmRequest (encodeFrame Config.cmdTlm false 0 false s) := by
  rw [← eq_tlmRequest_iff, encodeFrame_bytes, if_pos rfl]
  exact frameBytes_cmdTlm s.nextNonce

/-- Settles O31: the frame built is the telemetry request, and CRC_REM its last byte. -/
theorem telemetryRequestIsDeterministic : Obligations.TelemetryRequestIsDeterministic := by
  refine ⟨fun _ _ _ => rfl, fun s => ?_⟩
  obtain ⟨hmarker, hcmd, hzero, hsum⟩ := holdsTlmRequest_encodeFrame s
  exact ⟨finish .none (encodeFrame Config.cmdTlm false 0 false s), rfl, by rwa [finish_byte], by rwa [finish_byte],
    fun k h₁ h₂ => (finish_byte _ _ _ _).trans (hzero k h₁ h₂), by rwa [finish_byte],
    by rw [finish_crcRem, encodeFrame_remainder, hsum], by simp [isLighting, Config.cmdTlm, Config.lightCode],
    finish_errcode _ _, by rw [finish_tlm, encodeFrame_tlm], by rw [finish_draws, encodeFrame_draws],
    .finish_encodeFrame Config.cmdTlm false 0 false s⟩

/-! ### TLM_DECODE -/

/-- TLM_DECODE on a valid RX_BUF extracts the fields (R173). -/
theorem exec_tlmDecode_of_rxMatches {s : State} (h : rxMatches s) : exec .tlmDecode s =
    .next (finish .none (((validateRx s).putFlag .tlmValid true).putTlm (extractTlm s))) :=
  if_pos ((rxValid_iff s).2 h)

/-- TLM_DECODE on any other RX_BUF clears the fields and reports the mismatch (R173). -/
theorem exec_tlmDecode_of_not_rxMatches {s : State} (h : ¬ rxMatches s) : exec .tlmDecode s =
    .next (finish .checksumMismatch (((validateRx s).putFlag .tlmValid false).putTlm Telemetry.zero)) :=
  if_neg (mt (rxValid_iff s).1 h)

/-- Besides the field registers TLM_DECODE writes the CHK flags, TLM_VALID and, on an error, STICKY_ERR (R173). -/
theorem KeepsAllBut.tlmDecode {fs : List StatusFlag} (s : State) (v : Bool) (τ : Telemetry) (c : ErrCode)
    (h₁ : .chkValid ∈ fs) (h₂ : .chkMismatch ∈ fs) (h₃ : .tlmValid ∈ fs) (hc : c = .none ∨ .stickyErr ∈ fs) :
    KeepsAllBut fs [] s (Machine.finish c (((Machine.validateRx s).putFlag .tlmValid v).putTlm τ)) :=
  (KeepsAllBut.validateRx [] s h₁ h₂).trans
    ((KeepsAllBut.putFlag [] _ v h₃).trans ((KeepsAllBut.putTlm fs [] _ τ).trans (.finish [] _ c hc)))

/-- The firmware numbers are the two nibbles of frame byte 2 (R171). -/
theorem extractTlm_fwMajor_toNat (s : State) : (extractTlm s).fwMajor.toNat = (s.byte .rx 2).toNat / 16 :=
  (BitVec.toNat_ushiftRight ..).trans (Nat.shiftRight_eq_div_pow _ 4)

theorem extractTlm_fwMinor_toNat (s : State) : (extractTlm s).fwMinor.toNat = (s.byte .rx 2).toNat % 16 :=
  (BitVec.toNat_and ..).trans (Nat.and_two_pow_sub_one_eq_mod _ 4)

theorem Telemetry.get_zero (f : TlmField) : Telemetry.zero.get f = 0x00 := by cases f <;> rfl

/-- The field registers stand at 0x008 to 0x016, among them one reserved address (R21). -/
theorem locate_of_fieldAddr {a : Addr} (h₁ : 0x008 ≤ a) (h₂ : a ≤ 0x016) :
    (∃ f, locate a = .tlm f) ∨ locate a = .reserved := by
  have hlo : 0x008 ≤ a.toNat := h₁
  have hhi : a.toNat ≤ 0x016 := h₂
  rw [locate]
  generalize a.toNat = n at hlo hhi ⊢
  rcases lt_trichotomy n 0x013 with h | rfl | h
  · interval_cases n <;> exact .inl ⟨_, rfl⟩
  · exact .inr rfl
  · interval_cases n <;> exact .inl ⟨_, rfl⟩

/-- Cleared field registers read 0x00 at every address of theirs (R33). -/
theorem busRead_of_tlm_zero {s : State} (h : s.tlm = Telemetry.zero) {a : Addr} (h₁ : 0x008 ≤ a) (h₂ : a ≤ 0x016) :
    busRead a s = 0x00 := by
  rcases locate_of_fieldAddr h₁ h₂ with ⟨f, hf⟩ | hr
  · rw [busRead, hf, State.readLoc, h, Telemetry.get_zero]
  · rw [busRead, hr, State.readLoc]

/-- Settles O32: on a match the fields are `extractTlm`'s, on a mismatch they are `Telemetry.zero`'s. -/
theorem tlmDecodeExtractsOrClears : Obligations.TlmDecodeExtractsOrClears := by
  refine ⟨fun _ _ _ => rfl, fun s h => ?_, fun s h => ?_⟩
  · have hv : s.rxValid = true := (rxValid_iff s).2 h
    refine ⟨_, exec_tlmDecode_of_rxMatches h, ?_⟩
    rw [finish_tlm, State.putTlm_tlm]
    exact ⟨extractTlm_fwMajor_toNat s, extractTlm_fwMinor_toNat s, rfl, rfl, rfl, rfl, pumpModeDecode_eq _, rfl, rfl,
      rfl, rfl, rfl, rfl, rfl, by simp, by simp [hv], by simp [hv], by simp [rxChecksum_eq_bufferSum],
      finish_errcode _ _, by simp, .tlmDecode s true _ .none (by decide) (by decide) (by decide) (.inl rfl)⟩
  · have hv : s.rxValid = false := Bool.eq_false_iff.2 (mt (rxValid_iff s).1 h)
    exact ⟨_, exec_tlmDecode_of_not_rxMatches h,
      fun a => busRead_of_tlm_zero ((finish_tlm _ _).trans (State.putTlm_tlm _ _)), by simp [finish_flag],
      by simp [finish_flag, hv], by simp [finish_flag, hv], by simp [rxChecksum_eq_bufferSum], finish_errcode _ _,
      by simp [finish_flag], by simp,
      .tlmDecode s false _ .checksumMismatch (by decide) (by decide) (by decide) (.inr (by decide))⟩

/-! ### The report -/

/-- The name of the pump mode a raw byte decodes to (R172, R178). -/
theorem pumpModeName_pumpModeDecode (b : Byte) : pumpModeName (pumpModeDecode b) =
    some (if b = 0x00 then .quiet else if b = 0x02 then .extreme else .balanced) := by
  rw [pumpModeDecode_eq]
  split_ifs <;> rfl

/-- A duty in percent, the division first (R177, R180). -/
theorem dutyPercent_eq (b : Byte) : dutyPercent b = (b.toNat : Rat) / 255 * 100 := mul_div_right_comm _ _ _

/-- The firmware text of extracted fields (R171, R175). -/
theorem firmwareText_extractTlm (s : State) : firmwareText (extractTlm s) =
    Nat.toDigits 10 ((s.byte .rx 2).toNat / 16) ++ '.' :: Nat.toDigits 10 ((s.byte .rx 2).toNat % 16) ++
      '.' :: Nat.toDigits 10 (s.byte .rx 3).toNat := by
  simp only [firmwareText, decText, extractTlm_fwMajor_toNat, extractTlm_fwMinor_toNat, List.append_assoc,
    List.cons_append]
  rfl

/-- Settles O57: TLM_VALID is set, so the report is the eight measurements of the extracted fields. -/
theorem measurementsFollowTheFrame : Obligations.MeasurementsFollowTheFrame := by
  intro s h
  refine ⟨_, firmwareText (extractTlm s), _, exec_tlmDecode_of_rxMatches h, ?_, firmwareText_extractTlm s, rfl⟩
  rw [measurements, if_pos (by simp), finish_tlm, State.putTlm_tlm]
  simp only [dutyPercent_eq]
  rw [← pumpModeName_pumpModeDecode]
  rfl

/-! ### The shown hundredth -/

/-- An integer less than half a unit away is strictly nearer than any other. -/
theorem abs_sub_lt_abs_sub_of_ne {x : Rat} {h z : Int} (hx : |x - h| < 1 / 2) (hz : z ≠ h) : |x - h| < |x - z| := by
  have hone : (1 : Rat) ≤ |(z : Rat) - h| := by exact_mod_cast Int.one_le_abs (sub_ne_zero.2 hz)
  have htri : |(z : Rat) - h| ≤ |x - z| + |x - h| := by
    rw [abs_sub_comm x z]
    exact abs_sub_le _ _ _
  linarith

/-- A whole number of 255ths is never halfway between two hundredths: twice its number of hundredths is an even number
over 255, and 255 is odd (R181). -/
theorem abs_sub_hundredths_lt (n : Nat) : |(n : Rat) / 255 * 100 - hundredths ((n : Rat) / 255)| < 1 / 2 := by
  generalize hh : hundredths ((n : Rat) / 255) = h
  have hle : (h : Rat) ≤ (n : Rat) / 255 * 100 + 1 / 2 := hh ▸ Rat.floor_le _
  have hlt : (n : Rat) / 255 * 100 + 1 / 2 - 1 < h := hh ▸ Rat.lt_floor
  have hle' : 510 * h ≤ 200 * n + 255 := by
    have : 510 * (h : Rat) ≤ 200 * n + 255 := by linarith
    exact_mod_cast this
  have hodd : 510 * h < 200 * n + 255 := by omega
  have hodd' : 510 * (h : Rat) < 200 * n + 255 := by exact_mod_cast hodd
  rw [abs_lt]
  constructor <;> linarith

/-- The hundredth shown for a whole number of 255ths is strictly nearest (R181). -/
theorem hundredths_nearest_of_eq_div {q : Rat} {n : Nat} (hq : q = (n : Rat) / 255) {z : Int} (hz : z ≠ hundredths q) :
    |q * 100 - hundredths q| < |q * 100 - z| := by
  subst hq
  exact abs_sub_lt_abs_sub_of_ne (abs_sub_hundredths_lt n) hz

/-- A temperature is a whole number of 255ths of a degree (R176). -/
theorem liquidTemp_eq_div (t : Telemetry) :
    liquidTemp t = ((t.tempInt.toNat * 255 + t.tempFrac.toNat : Nat) : Rat) / 255 := by
  rw [liquidTemp]
  push_cast
  ring

/-- A duty is a whole number of 255ths of a percent (R177). -/
theorem dutyPercent_eq_div (b : Byte) : dutyPercent b = ((b.toNat * 100 : Nat) : Rat) / 255 := by
  rw [dutyPercent]
  push_cast
  rfl

/-- Settles O58: both values are whole numbers of 255ths. -/
theorem shownHundredthIsUniquelyNearest : Obligations.ShownHundredthIsUniquelyNearest :=
  ⟨fun t _ => hundredths_nearest_of_eq_div (liquidTemp_eq_div t),
    fun b _ => hundredths_nearest_of_eq_div (dutyPercent_eq_div b)⟩

end Sys2Proof.Machine
end

section
/-! SUPPORT. How an operation ends, by whether its operands are legal (rules R72 to R74, R190, R192, R193). -/

namespace Sys2Proof.Machine

/-- The code an operation with legal operands ends in (R190). -/
theorem ExecResult.errcode_eq_of_wellFormed {i : Instr} {s t : State} (h : ExecResult s i t)
    (hw : i.wellFormed = true) :
    t.errcode = if validates i = true ∧ s.rxValid = false then 0x04 else 0x00 := by
  cases h with
  | illegal hn => exact absurd (hw.symm.trans hn) (by decide)
  | nop | clrErr => rfl
  | crc _ hv | payload _ hv | frame _ hv | send _ hv => simp [hv]
  | validated hr | decoded hr | kept hr => simp [hr]
  | mismatch hv _ hr => simp [hv, hr, ErrCode.code]
  | cleared hr => simp [validates, hr, ErrCode.code]

/-- Settles O33: the error is recorded, and recording it writes ERRCODE and STICKY_ERR alone. -/
theorem illegalOperandsOnlyRecordTheError : Obligations.IllegalOperandsOnlyRecordTheError :=
  fun _ s hw => exists_error_of_illegal s hw

/-- Settles O34, by the ways an operation can end. -/
theorem legalOperandsEndNormallyOrInMismatch : Obligations.LegalOperandsEndNormallyOrInMismatch := by
  intro i s hw
  obtain ⟨t, ht, hr⟩ := exists_result i s
  refine ⟨t, ht, ?_⟩
  simp only [← rxValid_iff, Bool.not_eq_true]
  exact hr.errcode_eq_of_wellFormed hw

end Sys2Proof.Machine
end

section
/-! SUPPORT. Completion (rules R194, R212), and what reset leaves (rules R41, R210, R211). -/

namespace Sys2Proof.Machine

/-- Settles O35: each way an operation can end is a next state. -/
theorem everyOperationCompletes : Obligations.EveryOperationCompletes := fun i s =>
  let ⟨t, ht, _⟩ := exists_result i s
  ⟨t, ht⟩

/-! ### The reset input -/

/-- Every place of the map holds 0x00 right after reset (R210). -/
theorem readLoc_reset (l : Loc) : State.reset.readLoc l = 0x00 := by
  cases l with
  | tlm f => exact Telemetry.get_zero f
  | _ => rfl

/-- No place of the map tells the reset input from reset itself (R210). -/
theorem readLoc_resetInput (s : State) (l : Loc) : (resetInput s).readLoc l = State.reset.readLoc l := by
  cases l <;> rfl

/-- Settles O12: the map shows reset's zeros, and the host's side is `afterReset`. -/
theorem resetInputClearsEveryAddress : Obligations.ResetInputClearsEveryAddress := fun s rest hp =>
  ⟨resetInput (s.popEvent rest), step_of_pending hp, fun _ => (readLoc_resetInput _ _).trans (readLoc_reset _),
    fun _ => readLoc_reset _, rfl, rfl⟩

/-! ### The invariants -/

/-- The host's empty record has the form (log entry 7). -/
theorem hostForm_reset : State.reset.host.Form := ⟨nofun, Nat.zero_le 5, nofun, nofun⟩

/-- Settles O50: the three invariants of LRPE's own state, and the frame invariant by its two sides. -/
theorem invariantsHoldAtReset : Obligations.InvariantsHoldAtReset :=
  ⟨deviceInvariant_memoryForm.reset, deviceInvariant_statusForm.reset, deviceInvariant_fieldsForm.reset,
    (State.framesForm_iff _).2 ⟨txForm_reset, hostForm_reset⟩⟩

end Sys2Proof.Machine
end

section
/-! SUPPORT. Handing over a frame (rules R62, R213, R214, R221): when the host may, and what its record is then. -/

namespace Sys2Proof.Machine

section
variable {s : State}

/-! ### When the host may hand over TX_BUF -/

theorem transmit_of_settling (h : 0 < s.host.settle) : transmit s = .fault .settleTimeBroken := if_pos h.ne'

theorem transmit_of_stale (h : s.host.settle = 0) (hw : HoldsFanWrite s)
    (hm : s.host.learntMode ≠ some (s.byte .tx 23)) : transmit s = .fault .stalePumpMode :=
  (if_neg (not_not_intro h)).trans (if_neg fun hd => hm ((mayHandOver_iff s).1 hd hw))

theorem transmit_of_duty (h : s.host.settle = 0)
    (hd : HoldsFanWrite s → s.host.learntMode = some (s.byte .tx 23)) : transmit s = .next s.handOver :=
  (if_neg (not_not_intro h)).trans (if_pos ((mayHandOver_iff s).2 hd))

/-! ### What is awaited and learnt after a hand-over -/

/-- The telemetry request is no cooling write (R79, R170). -/
theorem HoldsTlmRequest.not_holdsCooling (h : HoldsTlmRequest s) : ¬ HoldsCooling s := by
  rw [← isCoolingFrame_iff, (eq_tlmRequest_iff s).2 h, isCoolingFrame_tlmRequest]
  decide

/-- The telemetry request starts the wait for its response and leaves what was learnt (R214). -/
theorem handOver_of_tlmRequest (h : HoldsTlmRequest s) :
    s.handOver.host.awaited = some (List.range 64) ∧ s.handOver.host.learntMode = s.host.learntMode :=
  ⟨if_pos ((eq_tlmRequest_iff s).2 h), if_neg (mt (isCoolingFrame_iff s).1 h.not_holdsCooling)⟩

/-- A cooling write makes what was learnt stale, and with it a response still awaited (R214). -/
theorem handOver_of_cooling (h : HoldsCooling s) :
    s.handOver.host.awaited = none ∧ s.handOver.host.learntMode = none :=
  have hc : isCoolingFrame (s.bytes .tx) = true := (isCoolingFrame_iff s).2 h
  have hr : s.bytes .tx ≠ tlmRequest := fun e => ((eq_tlmRequest_iff s).1 e).not_holdsCooling h
  ⟨(if_neg hr).trans (if_pos hc), if_pos hc⟩

/-- Any other frame leaves both records as they are (R214). -/
theorem handOver_of_other (hr : ¬ HoldsTlmRequest s) (hc : ¬ HoldsCooling s) :
    s.handOver.host.awaited = s.host.awaited ∧ s.handOver.host.learntMode = s.host.learntMode :=
  have hc' : ¬ isCoolingFrame (s.bytes .tx) = true := mt (isCoolingFrame_iff s).1 hc
  ⟨(if_neg (mt (eq_tlmRequest_iff s).1 hr)).trans (if_neg hc'), if_neg hc'⟩

end

/-- Settles O13: the step is `transmit` or the passing of time, and the snapshot is the bytes of TX_BUF. -/
theorem handOverSnapshotsTxBuf : Obligations.HandOverSnapshotsTxBuf := by
  refine fun s rest => ⟨fun hp h0 hd => ?_, fun hp hpos => ?_, fun n hp => step_of_pending hp⟩
  · let u : State := s.popEvent rest
    have hbyte (k : Nat) (hk : k < 64) : (u.bytes .tx).getD k 0 = busRead (BitVec.ofNat 9 (0x040 + k)) s :=
      (u.getD_bytes .tx k hk).trans (busRead_buf s (b := .tx) hk).symm
    exact ⟨u.handOver, u.bytes .tx, (step_of_pending hp).trans (transmit_of_duty h0 hd), u.bytes_length .tx, hbyte, rfl,
      handOver_of_tlmRequest (s := u), handOver_of_cooling (s := u), handOver_of_other (s := u)⟩
  · exact (step_of_pending hp).trans (transmit_of_settling hpos)

end Sys2Proof.Machine
end

section
/-! SUPPORT. The fan-write duty (rules R79, R140, R143, R149, R170, R214): which frames the operations build are fan
writes, cooling writes and telemetry requests. -/

namespace Sys2Proof.Machine

/-! ### Where the fan bytes stand -/

/-- The fan offsets lie past the cooling header, off the pump mode and the marker (R143). -/
theorem fanOffsets_apart : ∀ o ∈ fanOffsets, 8 ≤ o ∧ o ≠ 20 ∧ o ≠ 26 := by
  have h := fanModeOfs_ok
  simp only [Config.fanOfsOk, Bool.and_eq_true, decide_eq_true_eq, List.nodup_cons, List.mem_cons, not_or] at h
  simp only [fanOffsets, Config.fanDutyDelta, List.forall_mem_cons]
  grind

/-- The fan bytes of a payload with no fan write are 0x00 (R140, R149). -/
theorem coolingByte_of_mem_fanOffsets (mode : Byte) {o : Nat} (ho : o ∈ fanOffsets) : coolingByte mode o = 0x00 := by
  obtain ⟨h8, h20, h26⟩ := fanOffsets_apart o ho
  rw [coolingByte, if_neg (by omega), if_neg (by omega), if_neg (by omega), if_neg h20, if_neg h26]

/-- The fan bytes leave the pump mode where it is, at payload offset 20 (R140, R148). -/
theorem fanByte_pumpMode (d mode : Byte) : fanByte d mode 20 = mode := by
  have h := fanOffsets_apart
  simp only [fanOffsets, Config.fanDutyDelta, List.forall_mem_cons] at h
  rw [fanByte, if_neg (by omega), if_neg (by omega)]
  rfl

theorem fanByte_fanModeOfs1 (d mode : Byte) : fanByte d mode Config.fanModeOfs1 = 0x02 := if_pos (.inl rfl)

/-! ### What the two forms of frame are -/

/-- A nonce leaves the feature bits 0 (R7, R120). -/
theorem nonce_and_feature (k : Nat) : Config.nonce k &&& 0x07 = 0x00 := by
  have h : ∀ x : BitVec 5, (x ++ 0#3 : Byte) &&& 0x07 = 0x00 := by decide
  exact h (Config.nonceBits k)

section
variable {t : State} {n : Nat} {p : Nat → Byte}

/-- A Form B frame with no feature and command 0x14 is a cooling write (R79). -/
theorem FormB.holdsCooling (h : FormB t (Config.nonce n) 0x14 p) : HoldsCooling t :=
  ⟨by rw [h.code, nonce_and_feature], h.command⟩

/-- Around a fan payload it is a fan write, with the pump mode at frame byte 23 (R140, R148). -/
theorem FormB.holdsFanWrite {d mode : Byte} (h : FormB t (Config.nonce n) 0x14 (fun k => t.byte .payload k))
    (hp : PayloadIs t (fanByte d mode)) : HoldsFanWrite t ∧ t.byte .tx 23 = mode := by
  have hofs : Config.fanModeOfs1 < 60 := fanOffsets_lt _ (List.mem_cons_self ..)
  have hfan : t.byte .tx (3 + Config.fanModeOfs1) = 0x02 :=
    ((h.payload _ hofs).trans (hp _ hofs)).trans (fanByte_fanModeOfs1 d mode)
  have hmode : t.byte .tx (3 + 20) = mode :=
    ((h.payload 20 (by decide)).trans (hp 20 (by decide))).trans (fanByte_pumpMode d mode)
  exact ⟨⟨h.holdsCooling, Config.fanModeOfs1, List.mem_cons_self .., by rw [hfan]; decide⟩, hmode⟩

/-- Around a pump payload it is no fan write (R149). -/
theorem FormB.not_holdsFanWrite {b1 cmd mode : Byte} (h : FormB t b1 cmd (fun k => t.byte .payload k))
    (hp : PayloadIs t (coolingByte mode)) : ¬ HoldsFanWrite t := by
  rintro ⟨-, o, ho, hne⟩
  have hofs : o < 60 := fanOffsets_lt o ho
  exact hne (((h.payload o hofs).trans (hp o hofs)).trans (coolingByte_of_mem_fanOffsets mode ho))

/-- A lighting frame is told from the telemetry request and from a cooling write by the low bits of byte 1 (R79). -/
theorem FormA.lighting_neither (h : FormA t (Config.nonce n ||| 0x04) p) : ¬ HoldsTlmRequest t ∧ ¬ HoldsCooling t := by
  have hcode : t.byte .tx 1 &&& 0x07 = 0x04 := by rw [h.code]; exact nonce_or_lightCode_and n
  constructor
  · rintro ⟨-, hff, -⟩
    rw [hff] at hcode
    exact absurd hcode (by decide)
  · rintro ⟨hzero, -⟩
    exact absurd (hcode.symm.trans hzero) (by decide)

end

/-- Settles O60: the stale hand-over is `transmit`'s second fault, and each operation's frame is known from the form
already proved of it. -/
theorem fanWriteNeedsTheCurrentPumpMode : Obligations.FanWriteNeedsTheCurrentPumpMode := by
  obtain ⟨-, hfan, -⟩ := txFanBuildsCoolingFrame
  obtain ⟨-, hkeep, -⟩ := txFanKeepReembedsThePumpMode
  obtain ⟨-, hpump, -⟩ := txPumpBuildsCoolingFrame
  obtain ⟨-, hreq⟩ := telemetryRequestIsDeterministic
  obtain ⟨-, hlight⟩ := txLightBuildsLightingFrame
  obtain ⟨-, hsolid⟩ := txLightSolidBuildsLightingFrame
  refine ⟨fun s rest hp h0 hw hm => (step_of_pending hp).trans (transmit_of_stale h0 hw hm), fun s pct mode h => ?_,
    fun s pct h => ?_, fun s mode h => ?_, fun s => ?_, fun s => ?_, fun s r g b => ?_⟩
  · obtain ⟨t, ht, hp, hB, -⟩ := hfan s pct mode h
    exact ⟨t, ht, hB.holdsFanWrite hp⟩
  · obtain ⟨t, ht, hp, hB, -⟩ := hkeep s pct h
    exact ⟨t, ht, hB.holdsFanWrite hp⟩
  · obtain ⟨t, ht, hp, hB, -⟩ := hpump s mode h
    exact ⟨t, ht, hB.holdsCooling, hB.not_holdsFanWrite hp⟩
  · obtain ⟨t, ht, h0, h1, hz, h63, -⟩ := hreq s
    have hr : HoldsTlmRequest t := ⟨h0, h1, hz, h63⟩
    exact ⟨t, ht, hr, hr.not_holdsCooling⟩
  · obtain ⟨t, ht, -, hA, -⟩ := hlight s
    exact ⟨t, ht, hA.lighting_neither⟩
  · obtain ⟨t, ht, -, hA, -⟩ := hsolid s r g b
    exact ⟨t, ht, hA.lighting_neither⟩

end Sys2Proof.Machine
end

section
/-! SUPPORT. A command word placed for the next step (rules R70, R90), what a nonce and a feature leave of each other
(rules R7, R120, R127), and the constraints on the fan mode offsets (rule R143). -/

namespace Sys2Proof.Machine

/-! ### A placed command word -/

section
variable {a0 a1 a2 op : Byte}

/-- A table word that decodes to an operation is four bytes that do (R70, R75). -/
theorem decodeOp_of_decodeTableWord {i : Instr}
    (h : decodeTableWord 32 (commandWord a0 a1 a2 op).toNat = some i) : decodeOp a0 a1 a2 op = .ok i := by
  simp only [decodeTableWord, wordBytes_commandWord, decode] at h
  cases hd : decodeOp a0 a1 a2 op with
  | ok j => simpa [hd] using h
  | error e => simp [hd] at h

/-- Placing a command word stores its operand bytes and puts the write of its opcode first (R70, R90; log entry 2). -/
theorem State.withFetchWord_commandWord (s : State) :
    s.withFetchWord 32 (commandWord a0 a1 a2 op).toNat =
      { s with
        arg0 := a0
        arg1 := a1
        arg2 := a2
        host := { s.host with pending := .sb 0x003 op :: s.host.pending } } := by
  have h := wordBytes_commandWord a0 a1 a2 op
  simp only [wordBytes, List.cons.injEq, and_true] at h
  obtain ⟨h0, h1, h2, h3⟩ := h
  simp only [State.withFetchWord, h0, h1, h2, h3]

end

/-- Settles O7: the write of the opcode issues the bytes just placed. -/
theorem fetchWordRunsTheDecodedOperation : Obligations.FetchWordRunsTheDecodedOperation := by
  intro s a0 a1 a2 op i h
  rw [State.withFetchWord_commandWord]
  exact (step_issue rfl).trans (perform_of_decodeOp (decodeOp_of_decodeTableWord h))

/-! ### A nonce and a feature in one byte -/

/-- A nonce OR a feature is the nonce's five free bits beside the feature's three (R79, R120). -/
theorem nonce_or_feature (k : Nat) (feat : BitVec 3) :
    Config.nonce k ||| feat.setWidth 8 = Config.nonceBits k ++ feat := by
  have h : feat.setWidth 8 = 0#5 ++ feat := BitVec.setWidth_eq_append (by decide)
  rw [Config.nonce, h, BitVec.or_append, BitVec.or_zero, BitVec.zero_or]

theorem toNat_nonceBits_append (k : Nat) (feat : BitVec 3) :
    (Config.nonceBits k ++ feat : Byte).toNat = 8 * (Config.nonceBits k).toNat + feat.toNat := by
  rw [BitVec.toNat_append, ← Nat.shiftLeft_add_eq_or_of_lt feat.isLt, Nat.shiftLeft_eq, Nat.mul_comm]

theorem toNat_nonce (k : Nat) : (Config.nonce k).toNat = 8 * (Config.nonceBits k).toNat :=
  toNat_nonceBits_append k 0

theorem nonce_mem_nonceSetModel (k : Nat) : Config.nonce k ∈ Config.nonceSetModel := by
  have h : BitVec.ofNat 8 (8 * (Config.nonceBits k).toNat) = Config.nonce k := by
    rw [← toNat_nonce, BitVec.ofNat_toNat, BitVec.setWidth_eq]
  exact List.mem_map.2 ⟨_, List.mem_range.2 (Config.nonceBits k).isLt, h⟩

/-- The sum never carries: the nonce has no bit where the feature has its three (R120). -/
theorem toNat_nonce_or_feature (k : Nat) (feat : BitVec 3) :
    (Config.nonce k ||| feat.setWidth 8).toNat = (Config.nonce k).toNat + feat.toNat := by
  rw [nonce_or_feature, toNat_nonceBits_append, toNat_nonce]

/-- The feature shifted out and zeros shifted in, the nonce is left (R120). -/
theorem nonce_of_nonce_or_feature (k : Nat) (feat : BitVec 3) :
    ((Config.nonce k ||| feat.setWidth 8) >>> 3) <<< 3 = Config.nonce k := by
  apply BitVec.eq_of_toNat_eq
  rw [BitVec.toNat_shiftLeft, BitVec.toNat_ushiftRight, toNat_nonce_or_feature, toNat_nonce, Nat.shiftLeft_eq,
    Nat.shiftRight_eq_div_pow]
  have hn := (Config.nonceBits k).isLt
  have hf := feat.isLt
  omega

/-- The low three bits give the feature back (R79). -/
theorem feature_of_nonce_or_feature (k : Nat) (feat : BitVec 3) :
    (Config.nonce k ||| feat.setWidth 8).setWidth 3 = feat := by
  rw [nonce_or_feature, BitVec.setWidth_append_eq_right]

/-- Settles O44: the two share no bit, the lighting code is the feature 0b100, and 0xFF absorbs every nonce. -/
theorem nonceAndFeatureComeApart : Obligations.NonceAndFeatureComeApart := fun k feat =>
  ⟨nonce_mem_nonceSetModel k, nonce_and_feature k, toNat_nonce_or_feature k feat, nonce_of_nonce_or_feature k feat,
    feature_of_nonce_or_feature k feat, toNat_nonce_or_feature k 0b100, BitVec.or_allOnes⟩

/-! ### The fan mode offsets -/

/-- Settles O56: the pair of offsets meets the constraints by the way it is chosen. -/
theorem fanOffsetsMeetTheirConstraints : Obligations.FanOffsetsMeetTheirConstraints := by
  have h := fanModeOfs_ok
  simp only [Config.fanOfsOk, Bool.and_eq_true, decide_eq_true_eq] at h
  obtain ⟨⟨⟨⟨hlo₁, hhi₁⟩, hlo₂⟩, hhi₂⟩, hnodup⟩ := h
  exact ⟨hlo₁, hhi₁, hlo₂, hhi₂, hnodup⟩

end Sys2Proof.Machine
end
